-- ==== Sys2Proof/Word.lean ====
section
/-! DEFINITION. The words of the machine: command and response words (30_encoding.md R250), register values and addresses
(10_state.md R52, R54) and stored real quantities (00_scope.md R12). -/

namespace Sys2Proof

/-- A command word or a response word: 32 bits (30_encoding.md R250, R262). -/
abbrev Word := BitVec 32

/-- A parameter address PADDR: 12 bits (30_encoding.md R255). -/
abbrev PAddr := BitVec 12

/-- The contents of a parameter register: an `int16` (10_state.md R52). -/
abbrev RegVal := BitVec 16

/-- The bits of an IEEE 754 binary32 value: every stored `real` quantity is one (00_scope.md R12). -/
abbrev F32 := BitVec 32

end Sys2Proof
end

