-- ==== Sys2Proof/Config.lean ====
section
/-! DEFINITION. The configuration parameters of 00_scope.md R7 and the values the spec leaves open (R12, 60_exceptions.md R716). -/

namespace Sys2Proof

/-- An exact rational constant `num / den` of the configuration or of a formula. -/
structure Ratio where
  num : Int
  den : Nat
  deriving DecidableEq, Repr

/-- An arithmetic `NUM` (00_scope.md R12): one total function per operation, which depends on its operands only. Operands and
results are binary32. `ofRatio` is the rounding of an exact rational constant, `pi` the rounding of pi, `floorNonFinite` what
`floor` gives for a value that is not finite (log 5). -/
structure Num where
  ofRatio : Ratio → F32
  pi : F32
  add : F32 → F32 → F32
  sub : F32 → F32 → F32
  mul : F32 → F32 → F32
  div : F32 → F32 → F32
  sin : F32 → F32
  cos : F32 → F32
  atan : F32 → F32
  exp : F32 → F32
  exp2 : F32 → F32
  exp10 : F32 → F32
  pow : F32 → F32 → F32
  floorNonFinite : F32 → Int
  deriving Inhabited

/-- Which arithmetic a core uses: the reference arithmetic of `Machine/RefNum.lean`, or the arithmetic of implementation `k`,
of which nothing is known (00_scope.md R12; log 1). -/
inductive NumSel where
  | reference
  | implementation (k : Nat)
  deriving DecidableEq, Repr

/-- FREE VALUE (log 1): the arithmetic `NUM` of implementation `k`. -/
opaque Config.numImpl : Nat → Num

/-- FREE VALUE (log 7): `BUILD_LATENCY` of the n-th build, the number of voice steps between its start and its swap
(60_exceptions.md R716). -/
opaque Config.buildLatency : Nat → Nat

/-- `PINK_COEFFS`: the coefficients and the gain of the pink-noise filter (43_noise.md R504). `aj` is the feedback weight of
`bj`, `cj` its input weight, `d` the direct weight. The signs are those of the coefficients as the rule writes them, `c5` being
subtracted. -/
structure PinkCoeffs where
  a0 : Ratio
  c0 : Ratio
  a1 : Ratio
  c1 : Ratio
  a2 : Ratio
  c2 : Ratio
  a3 : Ratio
  c3 : Ratio
  a4 : Ratio
  c4 : Ratio
  a5 : Ratio
  c5 : Ratio
  d : Ratio
  c6 : Ratio
  gain : Ratio
  deriving DecidableEq, Repr

/-- The published Kellet values, the default of `PINK_COEFFS` (43_noise.md R504). -/
def PinkCoeffs.kellet : PinkCoeffs where
  a0 := ⟨99886, 100000⟩
  c0 := ⟨555179, 10000000⟩
  a1 := ⟨99332, 100000⟩
  c1 := ⟨750759, 10000000⟩
  a2 := ⟨96900, 100000⟩
  c2 := ⟨1538520, 10000000⟩
  a3 := ⟨86650, 100000⟩
  c3 := ⟨3104856, 10000000⟩
  a4 := ⟨55000, 100000⟩
  c4 := ⟨5329522, 10000000⟩
  a5 := ⟨-7616, 10000⟩
  c5 := ⟨168980, 10000000⟩
  d := ⟨5362, 10000⟩
  c6 := ⟨115926, 1000000⟩
  gain := ⟨11, 100⟩

/-- The configuration parameters that are not constants of the spec (00_scope.md R7). `voiceIds` lists the `VOICE_ID` of each
core, so `N_VOICES` is its length; every other parameter is the same for all cores of a program (DESIGN CHOICE, log 27). -/
structure Cfg where
  fs : Nat
  sub : Nat
  oscMin : Ratio
  oscMax : Ratio
  msoLen : Nat
  voiceIds : List (BitVec 8)
  quirkPwmGate : Bool
  quirkMsoSetters : Bool
  num : NumSel
  pink : PinkCoeffs
  deriving DecidableEq, Repr

/-- The configuration of `State.reset`: the defaults of 00_scope.md R7. The list of cores and the arithmetic have no default
there (DESIGN CHOICE, log 2, log 11). -/
def Cfg.default : Cfg where
  fs := 44100
  sub := 8
  oscMin := ⟨20, 1⟩
  oscMax := ⟨10000, 1⟩
  msoLen := 2048
  voiceIds := [0]
  quirkPwmGate := true
  quirkMsoSetters := true
  num := .reference
  pink := .kellet

/-- `KS_CAP`, the capacity of the Karplus-Strong delay line (00_scope.md R7). -/
def ksCap : Nat := 4096

/-- `KS_ENERGY_FLOOR = 5e-6` (00_scope.md R7, 40_voice.md R333). -/
def ksEnergyFloor : Ratio := ⟨5, 1000000⟩

/-- `ENV_SILENT = 0.05` (00_scope.md R7, 40_voice.md R332). -/
def envSilent : Ratio := ⟨5, 100⟩

/-- `SEND_SILENT = 0.05` (00_scope.md R7, 40_voice.md R332). -/
def sendSilent : Ratio := ⟨5, 100⟩

/-- `ADSR_EPS = 1e-4`, the "about 0" of an envelope (41_adsr_lfo.md R406). -/
def adsrEps : Ratio := ⟨1, 10000⟩

/-- `FORCE_FRACTION = 1/256` (41_adsr_lfo.md R406). -/
def forceFraction : Ratio := ⟨1, 256⟩

end Sys2Proof
end

