-- ==== Sys2Proof/Machine/Store.lean ====
section
/-! DEFINITION. Sparse storage: a list of (index, value) pairs in one canonical form, for the parameter space, the table space and
the delay line (20_memory.md R200; log 14). `d k` is what an unlisted index `k` reads as. -/

namespace Sys2Proof.Machine

/-- The value at index `k`. -/
def storeGet {α : Type} (d : Nat → α) : List (Nat × α) → Nat → α
  | [], k => d k
  | (j, v) :: m, k => if j = k then v else storeGet d m k

/-- Remove what is listed at index `k`. -/
def storeErase {α : Type} : List (Nat × α) → Nat → List (Nat × α)
  | [], _ => []
  | (j, v) :: m, k => if j = k then storeErase m k else (j, v) :: storeErase m k

/-- List `v` at index `k`, keeping the indices rising. -/
def storeInsert {α : Type} : List (Nat × α) → Nat → α → List (Nat × α)
  | [], k, v => [(k, v)]
  | (j, w) :: m, k, v => if k < j then (k, v) :: (j, w) :: m else if j = k then (k, v) :: m else (j, w) :: storeInsert m k v

/-- Write `v` at index `k`: the value an unlisted index reads as is not listed. -/
def storeSet {α : Type} [DecidableEq α] (d : Nat → α) (m : List (Nat × α)) (k : Nat) (v : α) : List (Nat × α) :=
  if v = d k then storeErase m k else storeInsert m k v

/-- The listed part of the values `vs` at indices `k`, `k+1`, ... -/
def storeOfList {α : Type} [DecidableEq α] (d : Nat → α) : Nat → List α → List (Nat × α)
  | _, [] => []
  | k, v :: vs => if v = d k then storeOfList d (k + 1) vs else (k, v) :: storeOfList d (k + 1) vs

/-- Write the values `vs` at indices 0, 1, ..., keeping what is listed above them. -/
def storeSetPrefix {α : Type} [DecidableEq α] (d : Nat → α) (m : List (Nat × α)) (vs : List α) : List (Nat × α) :=
  storeOfList d 0 vs ++ m.filter fun e => vs.length ≤ e.1

/-- Every listed index is at least `k` and the indices rise. -/
def storeRises {α : Type} : Nat → List (Nat × α) → Bool
  | _, [] => true
  | k, (j, _) :: m => decide (k ≤ j) && storeRises (j + 1) m

/-- The canonical form: indices strictly rising, and no entry equal to what an unlisted index reads as. -/
def storeWf {α : Type} [DecidableEq α] (d : Nat → α) (m : List (Nat × α)) : Bool :=
  storeRises 0 m && m.all fun e => decide (e.2 ≠ d e.1)

end Sys2Proof.Machine
end

