-- ==== Sys2Proof/Machine/RegMap.lean ====
section
/-! DEFINITION. The register map (10_state.md R54): domain, reset value, access and timing class of every mapped address. The rows
of one slot, oscillator, filter, distortion unit, LFO or envelope are written once. -/

namespace Sys2Proof.Machine

/-- The access column of R54. -/
inductive Access where
  /-- read and write -/
  | rw
  /-- read only: a write is an error -/
  | ro
  /-- a write of 1 to a bit clears it -/
  | w1c
  deriving DecidableEq, Repr

/-- The takes-effect column of R54. -/
inductive Effect where
  /-- read at every RENDER_SAMPLE -/
  | live
  /-- read by TICK_CONTROL only -/
  | tick
  /-- read by NOTE_ON only -/
  | noteOn
  /-- read by the Table Builder at a build's start only -/
  | builder
  /-- "-": no datapath reads it -/
  | none
  deriving DecidableEq, Repr

/-- The domain column of R54. -/
inductive Domain where
  /-- `lo..hi` -/
  | range (lo hi : Int)
  /-- an LFO selector: delay code 0..4 in bits 6..4, LFO index 0..5 in bits 2..0 (R53) -/
  | lfoSel
  /-- a table position: `0..MSO_LEN-1` -/
  | tablePos
  deriving DecidableEq, Repr

/-- One row of R54. -/
structure RegInfo where
  dom : Domain
  reset : Int
  access : Access
  effect : Effect
  deriving DecidableEq, Repr

/-- A read-write row. -/
def rwRow (lo hi reset : Int) (e : Effect) : Option RegInfo := some ⟨.range lo hi, reset, .rw, e⟩

/-- A read-only row. -/
def roRow (hi : Int) : Option RegInfo := some ⟨.range 0 hi, 0, .ro, .none⟩

/-- The four registers of a modulation slot, by their place in the slot (R53). -/
def slotRow : Nat → Option RegInfo
  | 0 => some ⟨.lfoSel, 0, .rw, .tick⟩
  | 1 => rwRow 0 100 0 .tick
  | 2 => rwRow 0 5 0 .tick
  | 3 => rwRow 0 100 0 .tick
  | _ => none

/-- Modulation slots at indices 0x18..0x23: FREQ or PAN1 at 0x18, PWM or PAN2 at 0x1C, AMP at 0x20 (30_encoding.md R256); which
of the three a unit has. -/
def slotsRow (first second third : Bool) (i : Nat) : Option RegInfo :=
  if 0x18 ≤ i && i < 0x1C then (if first then slotRow (i - 0x18) else none)
  else if 0x1C ≤ i && i < 0x20 then (if second then slotRow (i - 0x1C) else none)
  else if 0x20 ≤ i && i < 0x24 then (if third then slotRow (i - 0x20) else none)
  else none

/-- Unit VOICE. -/
def voiceRow : Nat → Option RegInfo
  | 0x00 => roRow 255
  | 0x01 => roRow 7
  | 0x02 => some ⟨.range 0 31, 0, .w1c, .none⟩
  | 0x03 => some ⟨.range 0 32767, 440, .ro, .none⟩
  | _ => none

/-- Units OSC1 and OSC2. -/
def oscRow : Nat → Option RegInfo
  | 0x00 => rwRow 0 1 0 .live
  | 0x01 => rwRow 0 4 0 .live
  | 0x02 => rwRow 0 100 50 .tick
  | 0x03 => rwRow (-2) 2 0 .tick
  | 0x04 => rwRow (-12) 12 0 .tick
  | 0x05 => rwRow (-50) 50 0 .tick
  | 0x06 => rwRow 0 100 0 .live
  | 0x07 => rwRow 0 100 0 .live
  | 0x08 => rwRow 0 1 0 .live
  | 0x09 => rwRow 0 5 0 .live
  | 0x0A => rwRow 0 100 0 .live
  | 0x0B => rwRow 0 100 0 .live
  | 0x0C => rwRow 0 100 100 .live
  | 0x0D => rwRow 0 100 0 .live
  | 0x0E => rwRow 0 100 0 .live
  | 0x0F => rwRow 0 100 0 .live
  | 0x10 => rwRow 0 100 0 .live
  | 0x11 => rwRow 0 100 0 .live
  | 0x12 => rwRow 0 100 0 .live
  | 0x13 => rwRow 0 100 0 .live
  | 0x14 => rwRow 0 100 0 .live
  | i => slotsRow true true true i

/-- Unit NOISE. -/
def noiseRow : Nat → Option RegInfo
  | 0x00 => rwRow 0 1 0 .live
  | 0x01 => rwRow 0 2 0 .live
  | 0x06 => rwRow 0 100 0 .live
  | 0x07 => rwRow 0 100 0 .live
  | i => slotsRow false false true i

/-- Unit KS. -/
def ksRow : Nat → Option RegInfo
  | 0x00 => rwRow 0 1 0 .live
  | 0x01 => rwRow 0 6 0 .noteOn
  | 0x02 => rwRow 0 100 0 .noteOn
  | 0x03 => rwRow 0 100 100 .live
  | 0x04 => rwRow 0 100 0 .noteOn
  | 0x05 => rwRow 0 1 0 .live
  | 0x06 => rwRow 0 100 0 .live
  | 0x07 => rwRow 0 100 0 .live
  | 0x08 => rwRow 0 100 0 .live
  | 0x09 => rwRow 0 100 50 .live
  | _ => none

/-- Unit MSO (reader). -/
def msoRow : Nat → Option RegInfo
  | 0x00 => rwRow 0 1 0 .live
  | 0x02 => rwRow 0 100 50 .tick
  | 0x03 => rwRow (-2) 2 0 .tick
  | 0x04 => rwRow (-12) 12 0 .tick
  | 0x05 => rwRow (-50) 50 0 .tick
  | 0x06 => rwRow 0 100 0 .live
  | 0x07 => rwRow 0 100 0 .live
  | i => slotsRow true true true i

/-- Unit PAD (reader). -/
def padRow : Nat → Option RegInfo
  | 0x00 => rwRow 0 1 0 .live
  | 0x03 => rwRow (-2) 2 0 .tick
  | 0x04 => rwRow (-12) 12 0 .tick
  | 0x05 => rwRow (-50) 50 0 .tick
  | 0x06 => rwRow 0 100 0 .live
  | 0x07 => rwRow 0 100 0 .live
  | i => slotsRow true false true i

/-- Units FILT1 and FILT2. -/
def filtRow : Nat → Option RegInfo
  | 0x00 => rwRow 0 100 100 .live
  | 0x01 => rwRow 0 6 2 .live
  | 0x02 => rwRow 0 100 0 .live
  | 0x03 => rwRow 0 3 3 .live
  | 0x04 => rwRow 0 100 0 .live
  | i => slotsRow true false false i

/-- Units DIST1 and DIST2. -/
def distRow : Nat → Option RegInfo
  | 0x00 => rwRow 0 1 0 .live
  | 0x01 => rwRow 0 100 0 .live
  | 0x02 => rwRow 1 100 1 .live
  | 0x03 => rwRow 0 100 100 .live
  | 0x04 => rwRow 0 1 0 .live
  | _ => none

/-- Unit AMP. -/
def ampRow : Nat → Option RegInfo
  | 0x00 => rwRow 0 100 0 .live
  | 0x01 => rwRow 0 100 50 .tick
  | 0x02 => rwRow 0 100 0 .live
  | 0x03 => rwRow 0 100 50 .tick
  | i => slotsRow true true false i

/-- One LFO of unit LFO. -/
def lfoRow : Nat → Option RegInfo
  | 0x0 => rwRow 0 4 0 .tick
  | 0x1 => rwRow 0 100 50 .tick
  | 0x2 => rwRow 0 100 50 .tick
  | _ => none

/-- One envelope of unit ADSR. -/
def adsrRow : Nat → Option RegInfo
  | 0x0 => rwRow 0 100 0 .tick
  | 0x1 => rwRow 0 100 0 .tick
  | 0x2 => rwRow 0 100 100 .tick
  | 0x3 => rwRow 0 100 0 .tick
  | 0x4 => rwRow 0 100 100 .none
  | 0x5 => rwRow 0 100 100 .none
  | 0x8 => roRow 6
  | _ => none

/-- Unit PADB. -/
def padbRow : Nat → Option RegInfo
  | 0x00 => rwRow 0 127 60 .builder
  | 0x01 => rwRow 0 100 100 .builder
  | 0x02 => rwRow 0 100 0 .builder
  | 0x03 => rwRow 0 100 0 .builder
  | 0x04 => rwRow 0 100 0 .builder
  | 0x05 => rwRow 0 100 0 .builder
  | 0x06 => rwRow 0 100 0 .builder
  | 0x07 => rwRow 0 100 0 .builder
  | 0x08 => rwRow 0 100 0 .builder
  | 0x09 => rwRow 0 100 0 .builder
  | 0x0A => rwRow 0 100 0 .builder
  | 0x0B => rwRow 0 2 1 .builder
  | 0x0C => rwRow 0 1 0 .builder
  | 0x0D => rwRow 0 100 20 .builder
  | 0x0E => rwRow 0 100 0 .builder
  | 0x0F => rwRow 0 5 0 .builder
  | 0x10 => roRow 3
  | 0x11 => roRow 65535
  | _ => none

/-- A breakpoint register of unit MSOB. -/
def bpRow (reset : Nat) : Option RegInfo := some ⟨.tablePos, reset, .rw, .builder⟩

/-- Unit MSOB; `L` is `MSO_LEN` (reset values of R80). -/
def msobRow (L : Nat) : Nat → Option RegInfo
  | 0x00 => bpRow (L / 4)
  | 0x01 => bpRow (L / 4 + 1)
  | 0x02 => bpRow (L / 2)
  | 0x03 => bpRow (L / 2 + 1)
  | 0x04 => bpRow (3 * L / 4)
  | 0x05 => bpRow (3 * L / 4 + 1)
  | 0x06 => rwRow 0 100 50 .builder
  | 0x10 => roRow 3
  | 0x11 => roRow 65535
  | _ => none

/-- Five instances of 16 indices each: IDX[7:4] = k-1, IDX[3:0] the register (30_encoding.md R256, R258). -/
def fiveRows (row : Nat → Option RegInfo) (i : Nat) : Option RegInfo := if i / 16 < 5 then row (i % 16) else none

/-- The row of R54 of an address; `none` for an unmapped address (30_encoding.md R258). -/
def regInfo (L : Nat) (a : PAddr) : Option RegInfo :=
  let i := a.toNat % 256
  match a.toNat / 256 with
  | 0x0 => voiceRow i
  | 0x1 => oscRow i
  | 0x2 => oscRow i
  | 0x3 => noiseRow i
  | 0x4 => ksRow i
  | 0x5 => msoRow i
  | 0x6 => padRow i
  | 0x7 => filtRow i
  | 0x8 => filtRow i
  | 0x9 => distRow i
  | 0xA => distRow i
  | 0xB => ampRow i
  | 0xC => fiveRows lfoRow i
  | 0xD => fiveRows adsrRow i
  | 0xE => padbRow i
  | 0xF => msobRow L i
  | _ => none

/-- The address is mapped. Whether it is does not depend on `MSO_LEN`. -/
def mapped (a : PAddr) : Bool := (regInfo 2048 a).isSome

/-- The address may be the target of a WRITE_PARAM. -/
def writable (a : PAddr) : Bool := (regInfo 2048 a).any fun r => r.access ≠ .ro

/-- The value a register holds after reset, as its 16 bits (10_state.md R54, R80). -/
def regReset (L : Nat) (k : Nat) : RegVal :=
  match regInfo L (BitVec.ofNat 12 k) with
  | some r => BitVec.ofInt 16 r.reset
  | none => 0

end Sys2Proof.Machine
end

