-- ==== Sys2Proof/Syntax.lean ====
section
/-! DEFINITION. The instructions: one constructor per row of spec/opcode_table.json (30_encoding.md R251, R252; 10_state.md R54), and
the commands they stand for. -/

namespace Sys2Proof

/-- One instruction per row of the opcode table. The register rows refine WRITE_PARAM and READ_PARAM: `writeParam` and `readParam`
stand for the words that no register row has (log 15). Every command is one word (30_encoding.md R250, R261). The constructors with
operands stand first (Lean's runtime numbers those below 245 only). -/
inductive Instr where
  /-- WRITE_PARAM to an address without a WRITE row: unmapped or read-only (40_voice.md R302) -/
  | writeParam (a : PAddr) (v : RegVal)
  /-- READ_PARAM of an unmapped address (R303) -/
  | readParam (a : PAddr)
  /-- SET_FREQUENCY, in milli-hertz (R304, 30_encoding.md R254) -/
  | setFrequency (mhz : BitVec 28)
  /-- the illegal opcode 0xA with the word's other bits (30_encoding.md R259) -/
  | illegalA (x : BitVec 28)
  /-- the illegal opcode 0xB with the word's other bits (30_encoding.md R259) -/
  | illegalB (x : BitVec 28)
  /-- the illegal opcode 0xC with the word's other bits (30_encoding.md R259) -/
  | illegalC (x : BitVec 28)
  /-- the illegal opcode 0xD with the word's other bits (30_encoding.md R259) -/
  | illegalD (x : BitVec 28)
  /-- the illegal opcode 0xE with the word's other bits (30_encoding.md R259) -/
  | illegalE (x : BitVec 28)
  /-- the illegal opcode 0xF with the word's other bits (30_encoding.md R259) -/
  | illegalF (x : BitVec 28)
  -- WRITE rows of unit VOICE (10_state.md R54)
  | writeVoiceStatus (v : RegVal)
  -- WRITE rows of unit OSC1 (10_state.md R54)
  | writeOsc1Enable (v : RegVal)
  | writeOsc1Waveform (v : RegVal)
  | writeOsc1PwmPercent (v : RegVal)
  | writeOsc1Octave (v : RegVal)
  | writeOsc1Semitone (v : RegVal)
  | writeOsc1Cents (v : RegVal)
  | writeOsc1SendF1 (v : RegVal)
  | writeOsc1SendF2 (v : RegVal)
  | writeOsc1Sync (v : RegVal)
  | writeOsc1UnisonMode (v : RegVal)
  | writeOsc1UnisonDetune (v : RegVal)
  | writeOsc1UnisonDist (v : RegVal)
  | writeOsc1UnisonLevel0 (v : RegVal)
  | writeOsc1UnisonLevel1 (v : RegVal)
  | writeOsc1UnisonLevel2 (v : RegVal)
  | writeOsc1UnisonLevel3 (v : RegVal)
  | writeOsc1UnisonLevel4 (v : RegVal)
  | writeOsc1UnisonLevel5 (v : RegVal)
  | writeOsc1UnisonLevel6 (v : RegVal)
  | writeOsc1UnisonLevel7 (v : RegVal)
  | writeOsc1UnisonLevel8 (v : RegVal)
  | writeOsc1FreqLfoSel (v : RegVal)
  | writeOsc1FreqLfoDepth (v : RegVal)
  | writeOsc1FreqEnvSel (v : RegVal)
  | writeOsc1FreqEnvDepth (v : RegVal)
  | writeOsc1PwmLfoSel (v : RegVal)
  | writeOsc1PwmLfoDepth (v : RegVal)
  | writeOsc1PwmEnvSel (v : RegVal)
  | writeOsc1PwmEnvDepth (v : RegVal)
  | writeOsc1AmpLfoSel (v : RegVal)
  | writeOsc1AmpLfoDepth (v : RegVal)
  | writeOsc1AmpEnvSel (v : RegVal)
  | writeOsc1AmpEnvDepth (v : RegVal)
  -- WRITE rows of unit OSC2 (10_state.md R54)
  | writeOsc2Enable (v : RegVal)
  | writeOsc2Waveform (v : RegVal)
  | writeOsc2PwmPercent (v : RegVal)
  | writeOsc2Octave (v : RegVal)
  | writeOsc2Semitone (v : RegVal)
  | writeOsc2Cents (v : RegVal)
  | writeOsc2SendF1 (v : RegVal)
  | writeOsc2SendF2 (v : RegVal)
  | writeOsc2Sync (v : RegVal)
  | writeOsc2UnisonMode (v : RegVal)
  | writeOsc2UnisonDetune (v : RegVal)
  | writeOsc2UnisonDist (v : RegVal)
  | writeOsc2UnisonLevel0 (v : RegVal)
  | writeOsc2UnisonLevel1 (v : RegVal)
  | writeOsc2UnisonLevel2 (v : RegVal)
  | writeOsc2UnisonLevel3 (v : RegVal)
  | writeOsc2UnisonLevel4 (v : RegVal)
  | writeOsc2UnisonLevel5 (v : RegVal)
  | writeOsc2UnisonLevel6 (v : RegVal)
  | writeOsc2UnisonLevel7 (v : RegVal)
  | writeOsc2UnisonLevel8 (v : RegVal)
  | writeOsc2FreqLfoSel (v : RegVal)
  | writeOsc2FreqLfoDepth (v : RegVal)
  | writeOsc2FreqEnvSel (v : RegVal)
  | writeOsc2FreqEnvDepth (v : RegVal)
  | writeOsc2PwmLfoSel (v : RegVal)
  | writeOsc2PwmLfoDepth (v : RegVal)
  | writeOsc2PwmEnvSel (v : RegVal)
  | writeOsc2PwmEnvDepth (v : RegVal)
  | writeOsc2AmpLfoSel (v : RegVal)
  | writeOsc2AmpLfoDepth (v : RegVal)
  | writeOsc2AmpEnvSel (v : RegVal)
  | writeOsc2AmpEnvDepth (v : RegVal)
  -- WRITE rows of unit NOISE (10_state.md R54)
  | writeNoiseEnable (v : RegVal)
  | writeNoiseColor (v : RegVal)
  | writeNoiseSendF1 (v : RegVal)
  | writeNoiseSendF2 (v : RegVal)
  | writeNoiseAmpLfoSel (v : RegVal)
  | writeNoiseAmpLfoDepth (v : RegVal)
  | writeNoiseAmpEnvSel (v : RegVal)
  | writeNoiseAmpEnvDepth (v : RegVal)
  -- WRITE rows of unit KS (10_state.md R54)
  | writeKsEnable (v : RegVal)
  | writeKsExcitation (v : RegVal)
  | writeKsVariation (v : RegVal)
  | writeKsStringDamp (v : RegVal)
  | writeKsPluckDamp (v : RegVal)
  | writeKsDampMode (v : RegVal)
  | writeKsSendF1 (v : RegVal)
  | writeKsSendF2 (v : RegVal)
  | writeKsOnDecay (v : RegVal)
  | writeKsOffDecay (v : RegVal)
  -- WRITE rows of unit MSO (10_state.md R54)
  | writeMsoEnable (v : RegVal)
  | writeMsoPwmPercent (v : RegVal)
  | writeMsoOctave (v : RegVal)
  | writeMsoSemitone (v : RegVal)
  | writeMsoCents (v : RegVal)
  | writeMsoSendF1 (v : RegVal)
  | writeMsoSendF2 (v : RegVal)
  | writeMsoFreqLfoSel (v : RegVal)
  | writeMsoFreqLfoDepth (v : RegVal)
  | writeMsoFreqEnvSel (v : RegVal)
  | writeMsoFreqEnvDepth (v : RegVal)
  | writeMsoPwmLfoSel (v : RegVal)
  | writeMsoPwmLfoDepth (v : RegVal)
  | writeMsoPwmEnvSel (v : RegVal)
  | writeMsoPwmEnvDepth (v : RegVal)
  | writeMsoAmpLfoSel (v : RegVal)
  | writeMsoAmpLfoDepth (v : RegVal)
  | writeMsoAmpEnvSel (v : RegVal)
  | writeMsoAmpEnvDepth (v : RegVal)
  -- WRITE rows of unit PAD (10_state.md R54)
  | writePadEnable (v : RegVal)
  | writePadOctave (v : RegVal)
  | writePadSemitone (v : RegVal)
  | writePadCents (v : RegVal)
  | writePadSendF1 (v : RegVal)
  | writePadSendF2 (v : RegVal)
  | writePadFreqLfoSel (v : RegVal)
  | writePadFreqLfoDepth (v : RegVal)
  | writePadFreqEnvSel (v : RegVal)
  | writePadFreqEnvDepth (v : RegVal)
  | writePadAmpLfoSel (v : RegVal)
  | writePadAmpLfoDepth (v : RegVal)
  | writePadAmpEnvSel (v : RegVal)
  | writePadAmpEnvDepth (v : RegVal)
  -- WRITE rows of unit FILT1 (10_state.md R54)
  | writeFilt1Freq (v : RegVal)
  | writeFilt1Octave (v : RegVal)
  | writeFilt1Q (v : RegVal)
  | writeFilt1Band (v : RegVal)
  | writeFilt1KbdTrack (v : RegVal)
  | writeFilt1FreqLfoSel (v : RegVal)
  | writeFilt1FreqLfoDepth (v : RegVal)
  | writeFilt1FreqEnvSel (v : RegVal)
  | writeFilt1FreqEnvDepth (v : RegVal)
  -- WRITE rows of unit FILT2 (10_state.md R54)
  | writeFilt2Freq (v : RegVal)
  | writeFilt2Octave (v : RegVal)
  | writeFilt2Q (v : RegVal)
  | writeFilt2Band (v : RegVal)
  | writeFilt2KbdTrack (v : RegVal)
  | writeFilt2FreqLfoSel (v : RegVal)
  | writeFilt2FreqLfoDepth (v : RegVal)
  | writeFilt2FreqEnvSel (v : RegVal)
  | writeFilt2FreqEnvDepth (v : RegVal)
  -- WRITE rows of unit DIST1 (10_state.md R54)
  | writeDist1Enable (v : RegVal)
  | writeDist1Drive (v : RegVal)
  | writeDist1Range (v : RegVal)
  | writeDist1Blend (v : RegVal)
  | writeDist1AutoGain (v : RegVal)
  -- WRITE rows of unit DIST2 (10_state.md R54)
  | writeDist2Enable (v : RegVal)
  | writeDist2Drive (v : RegVal)
  | writeDist2Range (v : RegVal)
  | writeDist2Blend (v : RegVal)
  | writeDist2AutoGain (v : RegVal)
  -- WRITE rows of unit AMP (10_state.md R54)
  | writeAmpGain1 (v : RegVal)
  | writeAmpPan1 (v : RegVal)
  | writeAmpGain2 (v : RegVal)
  | writeAmpPan2 (v : RegVal)
  | writeAmpPan1LfoSel (v : RegVal)
  | writeAmpPan1LfoDepth (v : RegVal)
  | writeAmpPan1EnvSel (v : RegVal)
  | writeAmpPan1EnvDepth (v : RegVal)
  | writeAmpPan2LfoSel (v : RegVal)
  | writeAmpPan2LfoDepth (v : RegVal)
  | writeAmpPan2EnvSel (v : RegVal)
  | writeAmpPan2EnvDepth (v : RegVal)
  -- WRITE rows of unit LFO (10_state.md R54)
  | writeLfo1Waveform (v : RegVal)
  | writeLfo1Rate (v : RegVal)
  | writeLfo1Symmetry (v : RegVal)
  | writeLfo2Waveform (v : RegVal)
  | writeLfo2Rate (v : RegVal)
  | writeLfo2Symmetry (v : RegVal)
  | writeLfo3Waveform (v : RegVal)
  | writeLfo3Rate (v : RegVal)
  | writeLfo3Symmetry (v : RegVal)
  | writeLfo4Waveform (v : RegVal)
  | writeLfo4Rate (v : RegVal)
  | writeLfo4Symmetry (v : RegVal)
  | writeLfo5Waveform (v : RegVal)
  | writeLfo5Rate (v : RegVal)
  | writeLfo5Symmetry (v : RegVal)
  -- WRITE rows of unit ADSR (10_state.md R54)
  | writeAdsr1Attack (v : RegVal)
  | writeAdsr1Decay (v : RegVal)
  | writeAdsr1Sustain (v : RegVal)
  | writeAdsr1Release (v : RegVal)
  | writeAdsr1Send1 (v : RegVal)
  | writeAdsr1Send2 (v : RegVal)
  | writeAdsr2Attack (v : RegVal)
  | writeAdsr2Decay (v : RegVal)
  | writeAdsr2Sustain (v : RegVal)
  | writeAdsr2Release (v : RegVal)
  | writeAdsr2Send1 (v : RegVal)
  | writeAdsr2Send2 (v : RegVal)
  | writeAdsr3Attack (v : RegVal)
  | writeAdsr3Decay (v : RegVal)
  | writeAdsr3Sustain (v : RegVal)
  | writeAdsr3Release (v : RegVal)
  | writeAdsr3Send1 (v : RegVal)
  | writeAdsr3Send2 (v : RegVal)
  | writeAdsr4Attack (v : RegVal)
  | writeAdsr4Decay (v : RegVal)
  | writeAdsr4Sustain (v : RegVal)
  | writeAdsr4Release (v : RegVal)
  | writeAdsr4Send1 (v : RegVal)
  | writeAdsr4Send2 (v : RegVal)
  | writeAdsr5Attack (v : RegVal)
  | writeAdsr5Decay (v : RegVal)
  | writeAdsr5Sustain (v : RegVal)
  | writeAdsr5Release (v : RegVal)
  | writeAdsr5Send1 (v : RegVal)
  | writeAdsr5Send2 (v : RegVal)
  -- WRITE rows of unit PADB (10_state.md R54)
  | writePadbBaseNote (v : RegVal)
  | writePadbHarm1 (v : RegVal)
  | writePadbHarm2 (v : RegVal)
  | writePadbHarm3 (v : RegVal)
  | writePadbHarm4 (v : RegVal)
  | writePadbHarm5 (v : RegVal)
  | writePadbHarm6 (v : RegVal)
  | writePadbHarm7 (v : RegVal)
  | writePadbHarm8 (v : RegVal)
  | writePadbHarm9 (v : RegVal)
  | writePadbHarm10 (v : RegVal)
  | writePadbShape (v : RegVal)
  | writePadbHalfCut (v : RegVal)
  | writePadbBandwidth (v : RegVal)
  | writePadbDetuneSpread (v : RegVal)
  | writePadbQuality (v : RegVal)
  -- WRITE rows of unit MSOB (10_state.md R54)
  | writeMsobBpA (v : RegVal)
  | writeMsobBpB (v : RegVal)
  | writeMsobBpC (v : RegVal)
  | writeMsobBpD (v : RegVal)
  | writeMsobBpE (v : RegVal)
  | writeMsobBpF (v : RegVal)
  | writeMsobSymmetry (v : RegVal)
  /-- NOP (R301) -/
  | nop
  /-- NOTE_ON (R305) -/
  | noteOn
  /-- NOTE_OFF (R306) -/
  | noteOff
  /-- TICK_CONTROL (R307) -/
  | tickControl
  /-- RENDER_SAMPLE (R308) -/
  | renderSample
  /-- CLEAR_FILTERS (R309) -/
  | clearFilters
  /-- BUILD_PAD (R310) -/
  | buildPad
  -- READ rows of unit VOICE (10_state.md R54)
  | readVoiceVoiceId
  | readVoiceVoiceState
  | readVoiceStatus
  | readVoiceFreqHz
  -- READ rows of unit OSC1 (10_state.md R54)
  | readOsc1Enable
  | readOsc1Waveform
  | readOsc1PwmPercent
  | readOsc1Octave
  | readOsc1Semitone
  | readOsc1Cents
  | readOsc1SendF1
  | readOsc1SendF2
  | readOsc1Sync
  | readOsc1UnisonMode
  | readOsc1UnisonDetune
  | readOsc1UnisonDist
  | readOsc1UnisonLevel0
  | readOsc1UnisonLevel1
  | readOsc1UnisonLevel2
  | readOsc1UnisonLevel3
  | readOsc1UnisonLevel4
  | readOsc1UnisonLevel5
  | readOsc1UnisonLevel6
  | readOsc1UnisonLevel7
  | readOsc1UnisonLevel8
  | readOsc1FreqLfoSel
  | readOsc1FreqLfoDepth
  | readOsc1FreqEnvSel
  | readOsc1FreqEnvDepth
  | readOsc1PwmLfoSel
  | readOsc1PwmLfoDepth
  | readOsc1PwmEnvSel
  | readOsc1PwmEnvDepth
  | readOsc1AmpLfoSel
  | readOsc1AmpLfoDepth
  | readOsc1AmpEnvSel
  | readOsc1AmpEnvDepth
  -- READ rows of unit OSC2 (10_state.md R54)
  | readOsc2Enable
  | readOsc2Waveform
  | readOsc2PwmPercent
  | readOsc2Octave
  | readOsc2Semitone
  | readOsc2Cents
  | readOsc2SendF1
  | readOsc2SendF2
  | readOsc2Sync
  | readOsc2UnisonMode
  | readOsc2UnisonDetune
  | readOsc2UnisonDist
  | readOsc2UnisonLevel0
  | readOsc2UnisonLevel1
  | readOsc2UnisonLevel2
  | readOsc2UnisonLevel3
  | readOsc2UnisonLevel4
  | readOsc2UnisonLevel5
  | readOsc2UnisonLevel6
  | readOsc2UnisonLevel7
  | readOsc2UnisonLevel8
  | readOsc2FreqLfoSel
  | readOsc2FreqLfoDepth
  | readOsc2FreqEnvSel
  | readOsc2FreqEnvDepth
  | readOsc2PwmLfoSel
  | readOsc2PwmLfoDepth
  | readOsc2PwmEnvSel
  | readOsc2PwmEnvDepth
  | readOsc2AmpLfoSel
  | readOsc2AmpLfoDepth
  | readOsc2AmpEnvSel
  | readOsc2AmpEnvDepth
  -- READ rows of unit NOISE (10_state.md R54)
  | readNoiseEnable
  | readNoiseColor
  | readNoiseSendF1
  | readNoiseSendF2
  | readNoiseAmpLfoSel
  | readNoiseAmpLfoDepth
  | readNoiseAmpEnvSel
  | readNoiseAmpEnvDepth
  -- READ rows of unit KS (10_state.md R54)
  | readKsEnable
  | readKsExcitation
  | readKsVariation
  | readKsStringDamp
  | readKsPluckDamp
  | readKsDampMode
  | readKsSendF1
  | readKsSendF2
  | readKsOnDecay
  | readKsOffDecay
  -- READ rows of unit MSO (10_state.md R54)
  | readMsoEnable
  | readMsoPwmPercent
  | readMsoOctave
  | readMsoSemitone
  | readMsoCents
  | readMsoSendF1
  | readMsoSendF2
  | readMsoFreqLfoSel
  | readMsoFreqLfoDepth
  | readMsoFreqEnvSel
  | readMsoFreqEnvDepth
  | readMsoPwmLfoSel
  | readMsoPwmLfoDepth
  | readMsoPwmEnvSel
  | readMsoPwmEnvDepth
  | readMsoAmpLfoSel
  | readMsoAmpLfoDepth
  | readMsoAmpEnvSel
  | readMsoAmpEnvDepth
  -- READ rows of unit PAD (10_state.md R54)
  | readPadEnable
  | readPadOctave
  | readPadSemitone
  | readPadCents
  | readPadSendF1
  | readPadSendF2
  | readPadFreqLfoSel
  | readPadFreqLfoDepth
  | readPadFreqEnvSel
  | readPadFreqEnvDepth
  | readPadAmpLfoSel
  | readPadAmpLfoDepth
  | readPadAmpEnvSel
  | readPadAmpEnvDepth
  -- READ rows of unit FILT1 (10_state.md R54)
  | readFilt1Freq
  | readFilt1Octave
  | readFilt1Q
  | readFilt1Band
  | readFilt1KbdTrack
  | readFilt1FreqLfoSel
  | readFilt1FreqLfoDepth
  | readFilt1FreqEnvSel
  | readFilt1FreqEnvDepth
  -- READ rows of unit FILT2 (10_state.md R54)
  | readFilt2Freq
  | readFilt2Octave
  | readFilt2Q
  | readFilt2Band
  | readFilt2KbdTrack
  | readFilt2FreqLfoSel
  | readFilt2FreqLfoDepth
  | readFilt2FreqEnvSel
  | readFilt2FreqEnvDepth
  -- READ rows of unit DIST1 (10_state.md R54)
  | readDist1Enable
  | readDist1Drive
  | readDist1Range
  | readDist1Blend
  | readDist1AutoGain
  -- READ rows of unit DIST2 (10_state.md R54)
  | readDist2Enable
  | readDist2Drive
  | readDist2Range
  | readDist2Blend
  | readDist2AutoGain
  -- READ rows of unit AMP (10_state.md R54)
  | readAmpGain1
  | readAmpPan1
  | readAmpGain2
  | readAmpPan2
  | readAmpPan1LfoSel
  | readAmpPan1LfoDepth
  | readAmpPan1EnvSel
  | readAmpPan1EnvDepth
  | readAmpPan2LfoSel
  | readAmpPan2LfoDepth
  | readAmpPan2EnvSel
  | readAmpPan2EnvDepth
  -- READ rows of unit LFO (10_state.md R54)
  | readLfo1Waveform
  | readLfo1Rate
  | readLfo1Symmetry
  | readLfo2Waveform
  | readLfo2Rate
  | readLfo2Symmetry
  | readLfo3Waveform
  | readLfo3Rate
  | readLfo3Symmetry
  | readLfo4Waveform
  | readLfo4Rate
  | readLfo4Symmetry
  | readLfo5Waveform
  | readLfo5Rate
  | readLfo5Symmetry
  -- READ rows of unit ADSR (10_state.md R54)
  | readAdsr1Attack
  | readAdsr1Decay
  | readAdsr1Sustain
  | readAdsr1Release
  | readAdsr1Send1
  | readAdsr1Send2
  | readAdsr1State
  | readAdsr2Attack
  | readAdsr2Decay
  | readAdsr2Sustain
  | readAdsr2Release
  | readAdsr2Send1
  | readAdsr2Send2
  | readAdsr2State
  | readAdsr3Attack
  | readAdsr3Decay
  | readAdsr3Sustain
  | readAdsr3Release
  | readAdsr3Send1
  | readAdsr3Send2
  | readAdsr3State
  | readAdsr4Attack
  | readAdsr4Decay
  | readAdsr4Sustain
  | readAdsr4Release
  | readAdsr4Send1
  | readAdsr4Send2
  | readAdsr4State
  | readAdsr5Attack
  | readAdsr5Decay
  | readAdsr5Sustain
  | readAdsr5Release
  | readAdsr5Send1
  | readAdsr5Send2
  | readAdsr5State
  -- READ rows of unit PADB (10_state.md R54)
  | readPadbBaseNote
  | readPadbHarm1
  | readPadbHarm2
  | readPadbHarm3
  | readPadbHarm4
  | readPadbHarm5
  | readPadbHarm6
  | readPadbHarm7
  | readPadbHarm8
  | readPadbHarm9
  | readPadbHarm10
  | readPadbShape
  | readPadbHalfCut
  | readPadbBandwidth
  | readPadbDetuneSpread
  | readPadbQuality
  | readPadbBusy
  | readPadbGen
  -- READ rows of unit MSOB (10_state.md R54)
  | readMsobBpA
  | readMsobBpB
  | readMsobBpC
  | readMsobBpD
  | readMsobBpE
  | readMsobBpF
  | readMsobSymmetry
  | readMsobBusy
  | readMsobGen
  deriving DecidableEq, Repr

/-- The commands of 30_encoding.md R252 with their operands; `illegal` is a word with a reserved opcode 0xA..0xF (R259). -/
inductive Command where
  | nop
  | write (a : PAddr) (v : RegVal)
  | read (a : PAddr)
  | setFrequency (mhz : BitVec 28)
  | noteOn
  | noteOff
  | tickControl
  | renderSample
  | clearFilters
  | buildPad
  | illegal (opc : Fin 6) (x : BitVec 28)
  deriving DecidableEq, Repr

end Sys2Proof
end

