-- ==== Sys2Proof/WellFormed.lean ====
section
/-! DEFINITION. The instructions that a word decodes to. -/

namespace Sys2Proof

/-- An instruction is well formed when some word decodes to it: `writeParam` and `readParam` stand only for addresses without a row
of their own (log 15); every other operand has exactly the width of its field. -/
def Instr.wf : Instr → Bool
  | .writeParam a _ => !Machine.writable a
  | .readParam a => !Machine.mapped a
  | _ => true

end Sys2Proof
end

