-- ==== Sys2Proof/Decode.lean ====
section
/-! DEFINITION. The decoder, total on every word (30_encoding.md R251 to R259), and the encoder. -/

namespace Sys2Proof

/-- Why a word is no instruction: a reserved-zero bit of its format is 1 (30_encoding.md R259). -/
inductive DecodeError where
  | reservedBits (opc : BitVec 4)
  deriving DecidableEq, Repr

/-- WRITE rows of unit VOICE, by IDX. -/
def writeRowsVoice (v : RegVal) : Nat → Option Instr
  | 0x02 => some (.writeVoiceStatus v)
  | _ => none

/-- WRITE rows of unit OSC1, by IDX. -/
def writeRowsOsc1 (v : RegVal) : Nat → Option Instr
  | 0x00 => some (.writeOsc1Enable v)
  | 0x01 => some (.writeOsc1Waveform v)
  | 0x02 => some (.writeOsc1PwmPercent v)
  | 0x03 => some (.writeOsc1Octave v)
  | 0x04 => some (.writeOsc1Semitone v)
  | 0x05 => some (.writeOsc1Cents v)
  | 0x06 => some (.writeOsc1SendF1 v)
  | 0x07 => some (.writeOsc1SendF2 v)
  | 0x08 => some (.writeOsc1Sync v)
  | 0x09 => some (.writeOsc1UnisonMode v)
  | 0x0A => some (.writeOsc1UnisonDetune v)
  | 0x0B => some (.writeOsc1UnisonDist v)
  | 0x0C => some (.writeOsc1UnisonLevel0 v)
  | 0x0D => some (.writeOsc1UnisonLevel1 v)
  | 0x0E => some (.writeOsc1UnisonLevel2 v)
  | 0x0F => some (.writeOsc1UnisonLevel3 v)
  | 0x10 => some (.writeOsc1UnisonLevel4 v)
  | 0x11 => some (.writeOsc1UnisonLevel5 v)
  | 0x12 => some (.writeOsc1UnisonLevel6 v)
  | 0x13 => some (.writeOsc1UnisonLevel7 v)
  | 0x14 => some (.writeOsc1UnisonLevel8 v)
  | 0x18 => some (.writeOsc1FreqLfoSel v)
  | 0x19 => some (.writeOsc1FreqLfoDepth v)
  | 0x1A => some (.writeOsc1FreqEnvSel v)
  | 0x1B => some (.writeOsc1FreqEnvDepth v)
  | 0x1C => some (.writeOsc1PwmLfoSel v)
  | 0x1D => some (.writeOsc1PwmLfoDepth v)
  | 0x1E => some (.writeOsc1PwmEnvSel v)
  | 0x1F => some (.writeOsc1PwmEnvDepth v)
  | 0x20 => some (.writeOsc1AmpLfoSel v)
  | 0x21 => some (.writeOsc1AmpLfoDepth v)
  | 0x22 => some (.writeOsc1AmpEnvSel v)
  | 0x23 => some (.writeOsc1AmpEnvDepth v)
  | _ => none

/-- WRITE rows of unit OSC2, by IDX. -/
def writeRowsOsc2 (v : RegVal) : Nat → Option Instr
  | 0x00 => some (.writeOsc2Enable v)
  | 0x01 => some (.writeOsc2Waveform v)
  | 0x02 => some (.writeOsc2PwmPercent v)
  | 0x03 => some (.writeOsc2Octave v)
  | 0x04 => some (.writeOsc2Semitone v)
  | 0x05 => some (.writeOsc2Cents v)
  | 0x06 => some (.writeOsc2SendF1 v)
  | 0x07 => some (.writeOsc2SendF2 v)
  | 0x08 => some (.writeOsc2Sync v)
  | 0x09 => some (.writeOsc2UnisonMode v)
  | 0x0A => some (.writeOsc2UnisonDetune v)
  | 0x0B => some (.writeOsc2UnisonDist v)
  | 0x0C => some (.writeOsc2UnisonLevel0 v)
  | 0x0D => some (.writeOsc2UnisonLevel1 v)
  | 0x0E => some (.writeOsc2UnisonLevel2 v)
  | 0x0F => some (.writeOsc2UnisonLevel3 v)
  | 0x10 => some (.writeOsc2UnisonLevel4 v)
  | 0x11 => some (.writeOsc2UnisonLevel5 v)
  | 0x12 => some (.writeOsc2UnisonLevel6 v)
  | 0x13 => some (.writeOsc2UnisonLevel7 v)
  | 0x14 => some (.writeOsc2UnisonLevel8 v)
  | 0x18 => some (.writeOsc2FreqLfoSel v)
  | 0x19 => some (.writeOsc2FreqLfoDepth v)
  | 0x1A => some (.writeOsc2FreqEnvSel v)
  | 0x1B => some (.writeOsc2FreqEnvDepth v)
  | 0x1C => some (.writeOsc2PwmLfoSel v)
  | 0x1D => some (.writeOsc2PwmLfoDepth v)
  | 0x1E => some (.writeOsc2PwmEnvSel v)
  | 0x1F => some (.writeOsc2PwmEnvDepth v)
  | 0x20 => some (.writeOsc2AmpLfoSel v)
  | 0x21 => some (.writeOsc2AmpLfoDepth v)
  | 0x22 => some (.writeOsc2AmpEnvSel v)
  | 0x23 => some (.writeOsc2AmpEnvDepth v)
  | _ => none

/-- WRITE rows of unit NOISE, by IDX. -/
def writeRowsNoise (v : RegVal) : Nat → Option Instr
  | 0x00 => some (.writeNoiseEnable v)
  | 0x01 => some (.writeNoiseColor v)
  | 0x06 => some (.writeNoiseSendF1 v)
  | 0x07 => some (.writeNoiseSendF2 v)
  | 0x20 => some (.writeNoiseAmpLfoSel v)
  | 0x21 => some (.writeNoiseAmpLfoDepth v)
  | 0x22 => some (.writeNoiseAmpEnvSel v)
  | 0x23 => some (.writeNoiseAmpEnvDepth v)
  | _ => none

/-- WRITE rows of unit KS, by IDX. -/
def writeRowsKs (v : RegVal) : Nat → Option Instr
  | 0x00 => some (.writeKsEnable v)
  | 0x01 => some (.writeKsExcitation v)
  | 0x02 => some (.writeKsVariation v)
  | 0x03 => some (.writeKsStringDamp v)
  | 0x04 => some (.writeKsPluckDamp v)
  | 0x05 => some (.writeKsDampMode v)
  | 0x06 => some (.writeKsSendF1 v)
  | 0x07 => some (.writeKsSendF2 v)
  | 0x08 => some (.writeKsOnDecay v)
  | 0x09 => some (.writeKsOffDecay v)
  | _ => none

/-- WRITE rows of unit MSO, by IDX. -/
def writeRowsMso (v : RegVal) : Nat → Option Instr
  | 0x00 => some (.writeMsoEnable v)
  | 0x02 => some (.writeMsoPwmPercent v)
  | 0x03 => some (.writeMsoOctave v)
  | 0x04 => some (.writeMsoSemitone v)
  | 0x05 => some (.writeMsoCents v)
  | 0x06 => some (.writeMsoSendF1 v)
  | 0x07 => some (.writeMsoSendF2 v)
  | 0x18 => some (.writeMsoFreqLfoSel v)
  | 0x19 => some (.writeMsoFreqLfoDepth v)
  | 0x1A => some (.writeMsoFreqEnvSel v)
  | 0x1B => some (.writeMsoFreqEnvDepth v)
  | 0x1C => some (.writeMsoPwmLfoSel v)
  | 0x1D => some (.writeMsoPwmLfoDepth v)
  | 0x1E => some (.writeMsoPwmEnvSel v)
  | 0x1F => some (.writeMsoPwmEnvDepth v)
  | 0x20 => some (.writeMsoAmpLfoSel v)
  | 0x21 => some (.writeMsoAmpLfoDepth v)
  | 0x22 => some (.writeMsoAmpEnvSel v)
  | 0x23 => some (.writeMsoAmpEnvDepth v)
  | _ => none

/-- WRITE rows of unit PAD, by IDX. -/
def writeRowsPad (v : RegVal) : Nat → Option Instr
  | 0x00 => some (.writePadEnable v)
  | 0x03 => some (.writePadOctave v)
  | 0x04 => some (.writePadSemitone v)
  | 0x05 => some (.writePadCents v)
  | 0x06 => some (.writePadSendF1 v)
  | 0x07 => some (.writePadSendF2 v)
  | 0x18 => some (.writePadFreqLfoSel v)
  | 0x19 => some (.writePadFreqLfoDepth v)
  | 0x1A => some (.writePadFreqEnvSel v)
  | 0x1B => some (.writePadFreqEnvDepth v)
  | 0x20 => some (.writePadAmpLfoSel v)
  | 0x21 => some (.writePadAmpLfoDepth v)
  | 0x22 => some (.writePadAmpEnvSel v)
  | 0x23 => some (.writePadAmpEnvDepth v)
  | _ => none

/-- WRITE rows of unit FILT1, by IDX. -/
def writeRowsFilt1 (v : RegVal) : Nat → Option Instr
  | 0x00 => some (.writeFilt1Freq v)
  | 0x01 => some (.writeFilt1Octave v)
  | 0x02 => some (.writeFilt1Q v)
  | 0x03 => some (.writeFilt1Band v)
  | 0x04 => some (.writeFilt1KbdTrack v)
  | 0x18 => some (.writeFilt1FreqLfoSel v)
  | 0x19 => some (.writeFilt1FreqLfoDepth v)
  | 0x1A => some (.writeFilt1FreqEnvSel v)
  | 0x1B => some (.writeFilt1FreqEnvDepth v)
  | _ => none

/-- WRITE rows of unit FILT2, by IDX. -/
def writeRowsFilt2 (v : RegVal) : Nat → Option Instr
  | 0x00 => some (.writeFilt2Freq v)
  | 0x01 => some (.writeFilt2Octave v)
  | 0x02 => some (.writeFilt2Q v)
  | 0x03 => some (.writeFilt2Band v)
  | 0x04 => some (.writeFilt2KbdTrack v)
  | 0x18 => some (.writeFilt2FreqLfoSel v)
  | 0x19 => some (.writeFilt2FreqLfoDepth v)
  | 0x1A => some (.writeFilt2FreqEnvSel v)
  | 0x1B => some (.writeFilt2FreqEnvDepth v)
  | _ => none

/-- WRITE rows of unit DIST1, by IDX. -/
def writeRowsDist1 (v : RegVal) : Nat → Option Instr
  | 0x00 => some (.writeDist1Enable v)
  | 0x01 => some (.writeDist1Drive v)
  | 0x02 => some (.writeDist1Range v)
  | 0x03 => some (.writeDist1Blend v)
  | 0x04 => some (.writeDist1AutoGain v)
  | _ => none

/-- WRITE rows of unit DIST2, by IDX. -/
def writeRowsDist2 (v : RegVal) : Nat → Option Instr
  | 0x00 => some (.writeDist2Enable v)
  | 0x01 => some (.writeDist2Drive v)
  | 0x02 => some (.writeDist2Range v)
  | 0x03 => some (.writeDist2Blend v)
  | 0x04 => some (.writeDist2AutoGain v)
  | _ => none

/-- WRITE rows of unit AMP, by IDX. -/
def writeRowsAmp (v : RegVal) : Nat → Option Instr
  | 0x00 => some (.writeAmpGain1 v)
  | 0x01 => some (.writeAmpPan1 v)
  | 0x02 => some (.writeAmpGain2 v)
  | 0x03 => some (.writeAmpPan2 v)
  | 0x18 => some (.writeAmpPan1LfoSel v)
  | 0x19 => some (.writeAmpPan1LfoDepth v)
  | 0x1A => some (.writeAmpPan1EnvSel v)
  | 0x1B => some (.writeAmpPan1EnvDepth v)
  | 0x1C => some (.writeAmpPan2LfoSel v)
  | 0x1D => some (.writeAmpPan2LfoDepth v)
  | 0x1E => some (.writeAmpPan2EnvSel v)
  | 0x1F => some (.writeAmpPan2EnvDepth v)
  | _ => none

/-- WRITE rows of unit LFO, by IDX. -/
def writeRowsLfo (v : RegVal) : Nat → Option Instr
  | 0x00 => some (.writeLfo1Waveform v)
  | 0x01 => some (.writeLfo1Rate v)
  | 0x02 => some (.writeLfo1Symmetry v)
  | 0x10 => some (.writeLfo2Waveform v)
  | 0x11 => some (.writeLfo2Rate v)
  | 0x12 => some (.writeLfo2Symmetry v)
  | 0x20 => some (.writeLfo3Waveform v)
  | 0x21 => some (.writeLfo3Rate v)
  | 0x22 => some (.writeLfo3Symmetry v)
  | 0x30 => some (.writeLfo4Waveform v)
  | 0x31 => some (.writeLfo4Rate v)
  | 0x32 => some (.writeLfo4Symmetry v)
  | 0x40 => some (.writeLfo5Waveform v)
  | 0x41 => some (.writeLfo5Rate v)
  | 0x42 => some (.writeLfo5Symmetry v)
  | _ => none

/-- WRITE rows of unit ADSR, by IDX. -/
def writeRowsAdsr (v : RegVal) : Nat → Option Instr
  | 0x00 => some (.writeAdsr1Attack v)
  | 0x01 => some (.writeAdsr1Decay v)
  | 0x02 => some (.writeAdsr1Sustain v)
  | 0x03 => some (.writeAdsr1Release v)
  | 0x04 => some (.writeAdsr1Send1 v)
  | 0x05 => some (.writeAdsr1Send2 v)
  | 0x10 => some (.writeAdsr2Attack v)
  | 0x11 => some (.writeAdsr2Decay v)
  | 0x12 => some (.writeAdsr2Sustain v)
  | 0x13 => some (.writeAdsr2Release v)
  | 0x14 => some (.writeAdsr2Send1 v)
  | 0x15 => some (.writeAdsr2Send2 v)
  | 0x20 => some (.writeAdsr3Attack v)
  | 0x21 => some (.writeAdsr3Decay v)
  | 0x22 => some (.writeAdsr3Sustain v)
  | 0x23 => some (.writeAdsr3Release v)
  | 0x24 => some (.writeAdsr3Send1 v)
  | 0x25 => some (.writeAdsr3Send2 v)
  | 0x30 => some (.writeAdsr4Attack v)
  | 0x31 => some (.writeAdsr4Decay v)
  | 0x32 => some (.writeAdsr4Sustain v)
  | 0x33 => some (.writeAdsr4Release v)
  | 0x34 => some (.writeAdsr4Send1 v)
  | 0x35 => some (.writeAdsr4Send2 v)
  | 0x40 => some (.writeAdsr5Attack v)
  | 0x41 => some (.writeAdsr5Decay v)
  | 0x42 => some (.writeAdsr5Sustain v)
  | 0x43 => some (.writeAdsr5Release v)
  | 0x44 => some (.writeAdsr5Send1 v)
  | 0x45 => some (.writeAdsr5Send2 v)
  | _ => none

/-- WRITE rows of unit PADB, by IDX. -/
def writeRowsPadb (v : RegVal) : Nat → Option Instr
  | 0x00 => some (.writePadbBaseNote v)
  | 0x01 => some (.writePadbHarm1 v)
  | 0x02 => some (.writePadbHarm2 v)
  | 0x03 => some (.writePadbHarm3 v)
  | 0x04 => some (.writePadbHarm4 v)
  | 0x05 => some (.writePadbHarm5 v)
  | 0x06 => some (.writePadbHarm6 v)
  | 0x07 => some (.writePadbHarm7 v)
  | 0x08 => some (.writePadbHarm8 v)
  | 0x09 => some (.writePadbHarm9 v)
  | 0x0A => some (.writePadbHarm10 v)
  | 0x0B => some (.writePadbShape v)
  | 0x0C => some (.writePadbHalfCut v)
  | 0x0D => some (.writePadbBandwidth v)
  | 0x0E => some (.writePadbDetuneSpread v)
  | 0x0F => some (.writePadbQuality v)
  | _ => none

/-- WRITE rows of unit MSOB, by IDX. -/
def writeRowsMsob (v : RegVal) : Nat → Option Instr
  | 0x00 => some (.writeMsobBpA v)
  | 0x01 => some (.writeMsobBpB v)
  | 0x02 => some (.writeMsobBpC v)
  | 0x03 => some (.writeMsobBpD v)
  | 0x04 => some (.writeMsobBpE v)
  | 0x05 => some (.writeMsobBpF v)
  | 0x06 => some (.writeMsobSymmetry v)
  | _ => none

/-- READ rows of unit VOICE, by IDX. -/
def readRowsVoice : Nat → Option Instr
  | 0x00 => some .readVoiceVoiceId
  | 0x01 => some .readVoiceVoiceState
  | 0x02 => some .readVoiceStatus
  | 0x03 => some .readVoiceFreqHz
  | _ => none

/-- READ rows of unit OSC1, by IDX. -/
def readRowsOsc1 : Nat → Option Instr
  | 0x00 => some .readOsc1Enable
  | 0x01 => some .readOsc1Waveform
  | 0x02 => some .readOsc1PwmPercent
  | 0x03 => some .readOsc1Octave
  | 0x04 => some .readOsc1Semitone
  | 0x05 => some .readOsc1Cents
  | 0x06 => some .readOsc1SendF1
  | 0x07 => some .readOsc1SendF2
  | 0x08 => some .readOsc1Sync
  | 0x09 => some .readOsc1UnisonMode
  | 0x0A => some .readOsc1UnisonDetune
  | 0x0B => some .readOsc1UnisonDist
  | 0x0C => some .readOsc1UnisonLevel0
  | 0x0D => some .readOsc1UnisonLevel1
  | 0x0E => some .readOsc1UnisonLevel2
  | 0x0F => some .readOsc1UnisonLevel3
  | 0x10 => some .readOsc1UnisonLevel4
  | 0x11 => some .readOsc1UnisonLevel5
  | 0x12 => some .readOsc1UnisonLevel6
  | 0x13 => some .readOsc1UnisonLevel7
  | 0x14 => some .readOsc1UnisonLevel8
  | 0x18 => some .readOsc1FreqLfoSel
  | 0x19 => some .readOsc1FreqLfoDepth
  | 0x1A => some .readOsc1FreqEnvSel
  | 0x1B => some .readOsc1FreqEnvDepth
  | 0x1C => some .readOsc1PwmLfoSel
  | 0x1D => some .readOsc1PwmLfoDepth
  | 0x1E => some .readOsc1PwmEnvSel
  | 0x1F => some .readOsc1PwmEnvDepth
  | 0x20 => some .readOsc1AmpLfoSel
  | 0x21 => some .readOsc1AmpLfoDepth
  | 0x22 => some .readOsc1AmpEnvSel
  | 0x23 => some .readOsc1AmpEnvDepth
  | _ => none

/-- READ rows of unit OSC2, by IDX. -/
def readRowsOsc2 : Nat → Option Instr
  | 0x00 => some .readOsc2Enable
  | 0x01 => some .readOsc2Waveform
  | 0x02 => some .readOsc2PwmPercent
  | 0x03 => some .readOsc2Octave
  | 0x04 => some .readOsc2Semitone
  | 0x05 => some .readOsc2Cents
  | 0x06 => some .readOsc2SendF1
  | 0x07 => some .readOsc2SendF2
  | 0x08 => some .readOsc2Sync
  | 0x09 => some .readOsc2UnisonMode
  | 0x0A => some .readOsc2UnisonDetune
  | 0x0B => some .readOsc2UnisonDist
  | 0x0C => some .readOsc2UnisonLevel0
  | 0x0D => some .readOsc2UnisonLevel1
  | 0x0E => some .readOsc2UnisonLevel2
  | 0x0F => some .readOsc2UnisonLevel3
  | 0x10 => some .readOsc2UnisonLevel4
  | 0x11 => some .readOsc2UnisonLevel5
  | 0x12 => some .readOsc2UnisonLevel6
  | 0x13 => some .readOsc2UnisonLevel7
  | 0x14 => some .readOsc2UnisonLevel8
  | 0x18 => some .readOsc2FreqLfoSel
  | 0x19 => some .readOsc2FreqLfoDepth
  | 0x1A => some .readOsc2FreqEnvSel
  | 0x1B => some .readOsc2FreqEnvDepth
  | 0x1C => some .readOsc2PwmLfoSel
  | 0x1D => some .readOsc2PwmLfoDepth
  | 0x1E => some .readOsc2PwmEnvSel
  | 0x1F => some .readOsc2PwmEnvDepth
  | 0x20 => some .readOsc2AmpLfoSel
  | 0x21 => some .readOsc2AmpLfoDepth
  | 0x22 => some .readOsc2AmpEnvSel
  | 0x23 => some .readOsc2AmpEnvDepth
  | _ => none

/-- READ rows of unit NOISE, by IDX. -/
def readRowsNoise : Nat → Option Instr
  | 0x00 => some .readNoiseEnable
  | 0x01 => some .readNoiseColor
  | 0x06 => some .readNoiseSendF1
  | 0x07 => some .readNoiseSendF2
  | 0x20 => some .readNoiseAmpLfoSel
  | 0x21 => some .readNoiseAmpLfoDepth
  | 0x22 => some .readNoiseAmpEnvSel
  | 0x23 => some .readNoiseAmpEnvDepth
  | _ => none

/-- READ rows of unit KS, by IDX. -/
def readRowsKs : Nat → Option Instr
  | 0x00 => some .readKsEnable
  | 0x01 => some .readKsExcitation
  | 0x02 => some .readKsVariation
  | 0x03 => some .readKsStringDamp
  | 0x04 => some .readKsPluckDamp
  | 0x05 => some .readKsDampMode
  | 0x06 => some .readKsSendF1
  | 0x07 => some .readKsSendF2
  | 0x08 => some .readKsOnDecay
  | 0x09 => some .readKsOffDecay
  | _ => none

/-- READ rows of unit MSO, by IDX. -/
def readRowsMso : Nat → Option Instr
  | 0x00 => some .readMsoEnable
  | 0x02 => some .readMsoPwmPercent
  | 0x03 => some .readMsoOctave
  | 0x04 => some .readMsoSemitone
  | 0x05 => some .readMsoCents
  | 0x06 => some .readMsoSendF1
  | 0x07 => some .readMsoSendF2
  | 0x18 => some .readMsoFreqLfoSel
  | 0x19 => some .readMsoFreqLfoDepth
  | 0x1A => some .readMsoFreqEnvSel
  | 0x1B => some .readMsoFreqEnvDepth
  | 0x1C => some .readMsoPwmLfoSel
  | 0x1D => some .readMsoPwmLfoDepth
  | 0x1E => some .readMsoPwmEnvSel
  | 0x1F => some .readMsoPwmEnvDepth
  | 0x20 => some .readMsoAmpLfoSel
  | 0x21 => some .readMsoAmpLfoDepth
  | 0x22 => some .readMsoAmpEnvSel
  | 0x23 => some .readMsoAmpEnvDepth
  | _ => none

/-- READ rows of unit PAD, by IDX. -/
def readRowsPad : Nat → Option Instr
  | 0x00 => some .readPadEnable
  | 0x03 => some .readPadOctave
  | 0x04 => some .readPadSemitone
  | 0x05 => some .readPadCents
  | 0x06 => some .readPadSendF1
  | 0x07 => some .readPadSendF2
  | 0x18 => some .readPadFreqLfoSel
  | 0x19 => some .readPadFreqLfoDepth
  | 0x1A => some .readPadFreqEnvSel
  | 0x1B => some .readPadFreqEnvDepth
  | 0x20 => some .readPadAmpLfoSel
  | 0x21 => some .readPadAmpLfoDepth
  | 0x22 => some .readPadAmpEnvSel
  | 0x23 => some .readPadAmpEnvDepth
  | _ => none

/-- READ rows of unit FILT1, by IDX. -/
def readRowsFilt1 : Nat → Option Instr
  | 0x00 => some .readFilt1Freq
  | 0x01 => some .readFilt1Octave
  | 0x02 => some .readFilt1Q
  | 0x03 => some .readFilt1Band
  | 0x04 => some .readFilt1KbdTrack
  | 0x18 => some .readFilt1FreqLfoSel
  | 0x19 => some .readFilt1FreqLfoDepth
  | 0x1A => some .readFilt1FreqEnvSel
  | 0x1B => some .readFilt1FreqEnvDepth
  | _ => none

/-- READ rows of unit FILT2, by IDX. -/
def readRowsFilt2 : Nat → Option Instr
  | 0x00 => some .readFilt2Freq
  | 0x01 => some .readFilt2Octave
  | 0x02 => some .readFilt2Q
  | 0x03 => some .readFilt2Band
  | 0x04 => some .readFilt2KbdTrack
  | 0x18 => some .readFilt2FreqLfoSel
  | 0x19 => some .readFilt2FreqLfoDepth
  | 0x1A => some .readFilt2FreqEnvSel
  | 0x1B => some .readFilt2FreqEnvDepth
  | _ => none

/-- READ rows of unit DIST1, by IDX. -/
def readRowsDist1 : Nat → Option Instr
  | 0x00 => some .readDist1Enable
  | 0x01 => some .readDist1Drive
  | 0x02 => some .readDist1Range
  | 0x03 => some .readDist1Blend
  | 0x04 => some .readDist1AutoGain
  | _ => none

/-- READ rows of unit DIST2, by IDX. -/
def readRowsDist2 : Nat → Option Instr
  | 0x00 => some .readDist2Enable
  | 0x01 => some .readDist2Drive
  | 0x02 => some .readDist2Range
  | 0x03 => some .readDist2Blend
  | 0x04 => some .readDist2AutoGain
  | _ => none

/-- READ rows of unit AMP, by IDX. -/
def readRowsAmp : Nat → Option Instr
  | 0x00 => some .readAmpGain1
  | 0x01 => some .readAmpPan1
  | 0x02 => some .readAmpGain2
  | 0x03 => some .readAmpPan2
  | 0x18 => some .readAmpPan1LfoSel
  | 0x19 => some .readAmpPan1LfoDepth
  | 0x1A => some .readAmpPan1EnvSel
  | 0x1B => some .readAmpPan1EnvDepth
  | 0x1C => some .readAmpPan2LfoSel
  | 0x1D => some .readAmpPan2LfoDepth
  | 0x1E => some .readAmpPan2EnvSel
  | 0x1F => some .readAmpPan2EnvDepth
  | _ => none

/-- READ rows of unit LFO, by IDX. -/
def readRowsLfo : Nat → Option Instr
  | 0x00 => some .readLfo1Waveform
  | 0x01 => some .readLfo1Rate
  | 0x02 => some .readLfo1Symmetry
  | 0x10 => some .readLfo2Waveform
  | 0x11 => some .readLfo2Rate
  | 0x12 => some .readLfo2Symmetry
  | 0x20 => some .readLfo3Waveform
  | 0x21 => some .readLfo3Rate
  | 0x22 => some .readLfo3Symmetry
  | 0x30 => some .readLfo4Waveform
  | 0x31 => some .readLfo4Rate
  | 0x32 => some .readLfo4Symmetry
  | 0x40 => some .readLfo5Waveform
  | 0x41 => some .readLfo5Rate
  | 0x42 => some .readLfo5Symmetry
  | _ => none

/-- READ rows of unit ADSR, by IDX. -/
def readRowsAdsr : Nat → Option Instr
  | 0x00 => some .readAdsr1Attack
  | 0x01 => some .readAdsr1Decay
  | 0x02 => some .readAdsr1Sustain
  | 0x03 => some .readAdsr1Release
  | 0x04 => some .readAdsr1Send1
  | 0x05 => some .readAdsr1Send2
  | 0x08 => some .readAdsr1State
  | 0x10 => some .readAdsr2Attack
  | 0x11 => some .readAdsr2Decay
  | 0x12 => some .readAdsr2Sustain
  | 0x13 => some .readAdsr2Release
  | 0x14 => some .readAdsr2Send1
  | 0x15 => some .readAdsr2Send2
  | 0x18 => some .readAdsr2State
  | 0x20 => some .readAdsr3Attack
  | 0x21 => some .readAdsr3Decay
  | 0x22 => some .readAdsr3Sustain
  | 0x23 => some .readAdsr3Release
  | 0x24 => some .readAdsr3Send1
  | 0x25 => some .readAdsr3Send2
  | 0x28 => some .readAdsr3State
  | 0x30 => some .readAdsr4Attack
  | 0x31 => some .readAdsr4Decay
  | 0x32 => some .readAdsr4Sustain
  | 0x33 => some .readAdsr4Release
  | 0x34 => some .readAdsr4Send1
  | 0x35 => some .readAdsr4Send2
  | 0x38 => some .readAdsr4State
  | 0x40 => some .readAdsr5Attack
  | 0x41 => some .readAdsr5Decay
  | 0x42 => some .readAdsr5Sustain
  | 0x43 => some .readAdsr5Release
  | 0x44 => some .readAdsr5Send1
  | 0x45 => some .readAdsr5Send2
  | 0x48 => some .readAdsr5State
  | _ => none

/-- READ rows of unit PADB, by IDX. -/
def readRowsPadb : Nat → Option Instr
  | 0x00 => some .readPadbBaseNote
  | 0x01 => some .readPadbHarm1
  | 0x02 => some .readPadbHarm2
  | 0x03 => some .readPadbHarm3
  | 0x04 => some .readPadbHarm4
  | 0x05 => some .readPadbHarm5
  | 0x06 => some .readPadbHarm6
  | 0x07 => some .readPadbHarm7
  | 0x08 => some .readPadbHarm8
  | 0x09 => some .readPadbHarm9
  | 0x0A => some .readPadbHarm10
  | 0x0B => some .readPadbShape
  | 0x0C => some .readPadbHalfCut
  | 0x0D => some .readPadbBandwidth
  | 0x0E => some .readPadbDetuneSpread
  | 0x0F => some .readPadbQuality
  | 0x10 => some .readPadbBusy
  | 0x11 => some .readPadbGen
  | _ => none

/-- READ rows of unit MSOB, by IDX. -/
def readRowsMsob : Nat → Option Instr
  | 0x00 => some .readMsobBpA
  | 0x01 => some .readMsobBpB
  | 0x02 => some .readMsobBpC
  | 0x03 => some .readMsobBpD
  | 0x04 => some .readMsobBpE
  | 0x05 => some .readMsobBpF
  | 0x06 => some .readMsobSymmetry
  | 0x10 => some .readMsobBusy
  | 0x11 => some .readMsobGen
  | _ => none

/-- The WRITE row of an address, if the table has one: the unit is PADDR[11:8], the index PADDR[7:0] (30_encoding.md R255, R256). -/
def writeRow (a : PAddr) (v : RegVal) : Option Instr :=
  match a.toNat / 256 with
  | 0x0 => writeRowsVoice v (a.toNat % 256)
  | 0x1 => writeRowsOsc1 v (a.toNat % 256)
  | 0x2 => writeRowsOsc2 v (a.toNat % 256)
  | 0x3 => writeRowsNoise v (a.toNat % 256)
  | 0x4 => writeRowsKs v (a.toNat % 256)
  | 0x5 => writeRowsMso v (a.toNat % 256)
  | 0x6 => writeRowsPad v (a.toNat % 256)
  | 0x7 => writeRowsFilt1 v (a.toNat % 256)
  | 0x8 => writeRowsFilt2 v (a.toNat % 256)
  | 0x9 => writeRowsDist1 v (a.toNat % 256)
  | 0xA => writeRowsDist2 v (a.toNat % 256)
  | 0xB => writeRowsAmp v (a.toNat % 256)
  | 0xC => writeRowsLfo v (a.toNat % 256)
  | 0xD => writeRowsAdsr v (a.toNat % 256)
  | 0xE => writeRowsPadb v (a.toNat % 256)
  | 0xF => writeRowsMsob v (a.toNat % 256)
  | _ => none

/-- The READ row of an address, if the table has one (30_encoding.md R255, R256). -/
def readRow (a : PAddr) : Option Instr :=
  match a.toNat / 256 with
  | 0x0 => readRowsVoice (a.toNat % 256)
  | 0x1 => readRowsOsc1 (a.toNat % 256)
  | 0x2 => readRowsOsc2 (a.toNat % 256)
  | 0x3 => readRowsNoise (a.toNat % 256)
  | 0x4 => readRowsKs (a.toNat % 256)
  | 0x5 => readRowsMso (a.toNat % 256)
  | 0x6 => readRowsPad (a.toNat % 256)
  | 0x7 => readRowsFilt1 (a.toNat % 256)
  | 0x8 => readRowsFilt2 (a.toNat % 256)
  | 0x9 => readRowsDist1 (a.toNat % 256)
  | 0xA => readRowsDist2 (a.toNat % 256)
  | 0xB => readRowsAmp (a.toNat % 256)
  | 0xC => readRowsLfo (a.toNat % 256)
  | 0xD => readRowsAdsr (a.toNat % 256)
  | 0xE => readRowsPadb (a.toNat % 256)
  | 0xF => readRowsMsob (a.toNat % 256)
  | _ => none

/-- The instruction of a WRITE_PARAM word: the row of its address, `writeParam` where there is none (log 15). -/
def decodeWrite (a : PAddr) (v : RegVal) : Instr := (writeRow a v).getD (.writeParam a v)

/-- The instruction of a READ_PARAM word: the row of its address, `readParam` where there is none (log 15). -/
def decodeRead (a : PAddr) : Instr := (readRow a).getD (.readParam a)

/-- A format Z word: bits 27..0 are reserved-zero (30_encoding.md R251). -/
def formatZ (w : Word) (i : Instr) : Except DecodeError Instr :=
  if w.extractLsb' 0 28 = 0 then .ok i else .error (.reservedBits (w.extractLsb' 28 4))

/-- The instruction of a command word: OPC is w[31:28] (30_encoding.md R251, R252). -/
def decode (w : Word) : Except DecodeError Instr :=
  match (w.extractLsb' 28 4).toNat with
  | 0x0 => formatZ w .nop
  | 0x1 => .ok (decodeWrite (w.extractLsb' 16 12) (w.extractLsb' 0 16))
  | 0x2 =>
    if w.extractLsb' 0 16 = 0 then .ok (decodeRead (w.extractLsb' 16 12))
    else .error (.reservedBits (w.extractLsb' 28 4))
  | 0x3 => .ok (.setFrequency (w.extractLsb' 0 28))
  | 0x4 => formatZ w .noteOn
  | 0x5 => formatZ w .noteOff
  | 0x6 => formatZ w .tickControl
  | 0x7 => formatZ w .renderSample
  | 0x8 => formatZ w .clearFilters
  | 0x9 => formatZ w .buildPad
  | 0xA => .ok (.illegalA (w.extractLsb' 0 28))
  | 0xB => .ok (.illegalB (w.extractLsb' 0 28))
  | 0xC => .ok (.illegalC (w.extractLsb' 0 28))
  | 0xD => .ok (.illegalD (w.extractLsb' 0 28))
  | 0xE => .ok (.illegalE (w.extractLsb' 0 28))
  | _ => .ok (.illegalF (w.extractLsb' 0 28))

/-- The decoder on one row of the opcode table, whose bits are numbered from the least significant bit of the word. The
command port carries whole 32-bit words (30_encoding.md R250), so no byte order enters. -/
def decodeTableWord (nbits w : Nat) : Option Instr :=
  match decode (BitVec.ofNat 32 (w % 2 ^ nbits)) with
  | .ok i => some i
  | .error _ => none

/-- The command an instruction is, with its operands (the table's register rows name the address). -/
def Instr.command : Instr → Command
  | .nop => .nop
  | .writeParam a v => .write a v
  | .readParam a => .read a
  | .setFrequency mhz => .setFrequency mhz
  | .noteOn => .noteOn
  | .noteOff => .noteOff
  | .tickControl => .tickControl
  | .renderSample => .renderSample
  | .clearFilters => .clearFilters
  | .buildPad => .buildPad
  | .illegalA x => .illegal 0 x
  | .illegalB x => .illegal 1 x
  | .illegalC x => .illegal 2 x
  | .illegalD x => .illegal 3 x
  | .illegalE x => .illegal 4 x
  | .illegalF x => .illegal 5 x
  | .readVoiceVoiceId => .read 0x000
  | .readVoiceVoiceState => .read 0x001
  | .writeVoiceStatus v => .write 0x002 v
  | .readVoiceStatus => .read 0x002
  | .readVoiceFreqHz => .read 0x003
  | .writeOsc1Enable v => .write 0x100 v
  | .readOsc1Enable => .read 0x100
  | .writeOsc1Waveform v => .write 0x101 v
  | .readOsc1Waveform => .read 0x101
  | .writeOsc1PwmPercent v => .write 0x102 v
  | .readOsc1PwmPercent => .read 0x102
  | .writeOsc1Octave v => .write 0x103 v
  | .readOsc1Octave => .read 0x103
  | .writeOsc1Semitone v => .write 0x104 v
  | .readOsc1Semitone => .read 0x104
  | .writeOsc1Cents v => .write 0x105 v
  | .readOsc1Cents => .read 0x105
  | .writeOsc1SendF1 v => .write 0x106 v
  | .readOsc1SendF1 => .read 0x106
  | .writeOsc1SendF2 v => .write 0x107 v
  | .readOsc1SendF2 => .read 0x107
  | .writeOsc1Sync v => .write 0x108 v
  | .readOsc1Sync => .read 0x108
  | .writeOsc1UnisonMode v => .write 0x109 v
  | .readOsc1UnisonMode => .read 0x109
  | .writeOsc1UnisonDetune v => .write 0x10A v
  | .readOsc1UnisonDetune => .read 0x10A
  | .writeOsc1UnisonDist v => .write 0x10B v
  | .readOsc1UnisonDist => .read 0x10B
  | .writeOsc1UnisonLevel0 v => .write 0x10C v
  | .readOsc1UnisonLevel0 => .read 0x10C
  | .writeOsc1UnisonLevel1 v => .write 0x10D v
  | .readOsc1UnisonLevel1 => .read 0x10D
  | .writeOsc1UnisonLevel2 v => .write 0x10E v
  | .readOsc1UnisonLevel2 => .read 0x10E
  | .writeOsc1UnisonLevel3 v => .write 0x10F v
  | .readOsc1UnisonLevel3 => .read 0x10F
  | .writeOsc1UnisonLevel4 v => .write 0x110 v
  | .readOsc1UnisonLevel4 => .read 0x110
  | .writeOsc1UnisonLevel5 v => .write 0x111 v
  | .readOsc1UnisonLevel5 => .read 0x111
  | .writeOsc1UnisonLevel6 v => .write 0x112 v
  | .readOsc1UnisonLevel6 => .read 0x112
  | .writeOsc1UnisonLevel7 v => .write 0x113 v
  | .readOsc1UnisonLevel7 => .read 0x113
  | .writeOsc1UnisonLevel8 v => .write 0x114 v
  | .readOsc1UnisonLevel8 => .read 0x114
  | .writeOsc1FreqLfoSel v => .write 0x118 v
  | .readOsc1FreqLfoSel => .read 0x118
  | .writeOsc1FreqLfoDepth v => .write 0x119 v
  | .readOsc1FreqLfoDepth => .read 0x119
  | .writeOsc1FreqEnvSel v => .write 0x11A v
  | .readOsc1FreqEnvSel => .read 0x11A
  | .writeOsc1FreqEnvDepth v => .write 0x11B v
  | .readOsc1FreqEnvDepth => .read 0x11B
  | .writeOsc1PwmLfoSel v => .write 0x11C v
  | .readOsc1PwmLfoSel => .read 0x11C
  | .writeOsc1PwmLfoDepth v => .write 0x11D v
  | .readOsc1PwmLfoDepth => .read 0x11D
  | .writeOsc1PwmEnvSel v => .write 0x11E v
  | .readOsc1PwmEnvSel => .read 0x11E
  | .writeOsc1PwmEnvDepth v => .write 0x11F v
  | .readOsc1PwmEnvDepth => .read 0x11F
  | .writeOsc1AmpLfoSel v => .write 0x120 v
  | .readOsc1AmpLfoSel => .read 0x120
  | .writeOsc1AmpLfoDepth v => .write 0x121 v
  | .readOsc1AmpLfoDepth => .read 0x121
  | .writeOsc1AmpEnvSel v => .write 0x122 v
  | .readOsc1AmpEnvSel => .read 0x122
  | .writeOsc1AmpEnvDepth v => .write 0x123 v
  | .readOsc1AmpEnvDepth => .read 0x123
  | .writeOsc2Enable v => .write 0x200 v
  | .readOsc2Enable => .read 0x200
  | .writeOsc2Waveform v => .write 0x201 v
  | .readOsc2Waveform => .read 0x201
  | .writeOsc2PwmPercent v => .write 0x202 v
  | .readOsc2PwmPercent => .read 0x202
  | .writeOsc2Octave v => .write 0x203 v
  | .readOsc2Octave => .read 0x203
  | .writeOsc2Semitone v => .write 0x204 v
  | .readOsc2Semitone => .read 0x204
  | .writeOsc2Cents v => .write 0x205 v
  | .readOsc2Cents => .read 0x205
  | .writeOsc2SendF1 v => .write 0x206 v
  | .readOsc2SendF1 => .read 0x206
  | .writeOsc2SendF2 v => .write 0x207 v
  | .readOsc2SendF2 => .read 0x207
  | .writeOsc2Sync v => .write 0x208 v
  | .readOsc2Sync => .read 0x208
  | .writeOsc2UnisonMode v => .write 0x209 v
  | .readOsc2UnisonMode => .read 0x209
  | .writeOsc2UnisonDetune v => .write 0x20A v
  | .readOsc2UnisonDetune => .read 0x20A
  | .writeOsc2UnisonDist v => .write 0x20B v
  | .readOsc2UnisonDist => .read 0x20B
  | .writeOsc2UnisonLevel0 v => .write 0x20C v
  | .readOsc2UnisonLevel0 => .read 0x20C
  | .writeOsc2UnisonLevel1 v => .write 0x20D v
  | .readOsc2UnisonLevel1 => .read 0x20D
  | .writeOsc2UnisonLevel2 v => .write 0x20E v
  | .readOsc2UnisonLevel2 => .read 0x20E
  | .writeOsc2UnisonLevel3 v => .write 0x20F v
  | .readOsc2UnisonLevel3 => .read 0x20F
  | .writeOsc2UnisonLevel4 v => .write 0x210 v
  | .readOsc2UnisonLevel4 => .read 0x210
  | .writeOsc2UnisonLevel5 v => .write 0x211 v
  | .readOsc2UnisonLevel5 => .read 0x211
  | .writeOsc2UnisonLevel6 v => .write 0x212 v
  | .readOsc2UnisonLevel6 => .read 0x212
  | .writeOsc2UnisonLevel7 v => .write 0x213 v
  | .readOsc2UnisonLevel7 => .read 0x213
  | .writeOsc2UnisonLevel8 v => .write 0x214 v
  | .readOsc2UnisonLevel8 => .read 0x214
  | .writeOsc2FreqLfoSel v => .write 0x218 v
  | .readOsc2FreqLfoSel => .read 0x218
  | .writeOsc2FreqLfoDepth v => .write 0x219 v
  | .readOsc2FreqLfoDepth => .read 0x219
  | .writeOsc2FreqEnvSel v => .write 0x21A v
  | .readOsc2FreqEnvSel => .read 0x21A
  | .writeOsc2FreqEnvDepth v => .write 0x21B v
  | .readOsc2FreqEnvDepth => .read 0x21B
  | .writeOsc2PwmLfoSel v => .write 0x21C v
  | .readOsc2PwmLfoSel => .read 0x21C
  | .writeOsc2PwmLfoDepth v => .write 0x21D v
  | .readOsc2PwmLfoDepth => .read 0x21D
  | .writeOsc2PwmEnvSel v => .write 0x21E v
  | .readOsc2PwmEnvSel => .read 0x21E
  | .writeOsc2PwmEnvDepth v => .write 0x21F v
  | .readOsc2PwmEnvDepth => .read 0x21F
  | .writeOsc2AmpLfoSel v => .write 0x220 v
  | .readOsc2AmpLfoSel => .read 0x220
  | .writeOsc2AmpLfoDepth v => .write 0x221 v
  | .readOsc2AmpLfoDepth => .read 0x221
  | .writeOsc2AmpEnvSel v => .write 0x222 v
  | .readOsc2AmpEnvSel => .read 0x222
  | .writeOsc2AmpEnvDepth v => .write 0x223 v
  | .readOsc2AmpEnvDepth => .read 0x223
  | .writeNoiseEnable v => .write 0x300 v
  | .readNoiseEnable => .read 0x300
  | .writeNoiseColor v => .write 0x301 v
  | .readNoiseColor => .read 0x301
  | .writeNoiseSendF1 v => .write 0x306 v
  | .readNoiseSendF1 => .read 0x306
  | .writeNoiseSendF2 v => .write 0x307 v
  | .readNoiseSendF2 => .read 0x307
  | .writeNoiseAmpLfoSel v => .write 0x320 v
  | .readNoiseAmpLfoSel => .read 0x320
  | .writeNoiseAmpLfoDepth v => .write 0x321 v
  | .readNoiseAmpLfoDepth => .read 0x321
  | .writeNoiseAmpEnvSel v => .write 0x322 v
  | .readNoiseAmpEnvSel => .read 0x322
  | .writeNoiseAmpEnvDepth v => .write 0x323 v
  | .readNoiseAmpEnvDepth => .read 0x323
  | .writeKsEnable v => .write 0x400 v
  | .readKsEnable => .read 0x400
  | .writeKsExcitation v => .write 0x401 v
  | .readKsExcitation => .read 0x401
  | .writeKsVariation v => .write 0x402 v
  | .readKsVariation => .read 0x402
  | .writeKsStringDamp v => .write 0x403 v
  | .readKsStringDamp => .read 0x403
  | .writeKsPluckDamp v => .write 0x404 v
  | .readKsPluckDamp => .read 0x404
  | .writeKsDampMode v => .write 0x405 v
  | .readKsDampMode => .read 0x405
  | .writeKsSendF1 v => .write 0x406 v
  | .readKsSendF1 => .read 0x406
  | .writeKsSendF2 v => .write 0x407 v
  | .readKsSendF2 => .read 0x407
  | .writeKsOnDecay v => .write 0x408 v
  | .readKsOnDecay => .read 0x408
  | .writeKsOffDecay v => .write 0x409 v
  | .readKsOffDecay => .read 0x409
  | .writeMsoEnable v => .write 0x500 v
  | .readMsoEnable => .read 0x500
  | .writeMsoPwmPercent v => .write 0x502 v
  | .readMsoPwmPercent => .read 0x502
  | .writeMsoOctave v => .write 0x503 v
  | .readMsoOctave => .read 0x503
  | .writeMsoSemitone v => .write 0x504 v
  | .readMsoSemitone => .read 0x504
  | .writeMsoCents v => .write 0x505 v
  | .readMsoCents => .read 0x505
  | .writeMsoSendF1 v => .write 0x506 v
  | .readMsoSendF1 => .read 0x506
  | .writeMsoSendF2 v => .write 0x507 v
  | .readMsoSendF2 => .read 0x507
  | .writeMsoFreqLfoSel v => .write 0x518 v
  | .readMsoFreqLfoSel => .read 0x518
  | .writeMsoFreqLfoDepth v => .write 0x519 v
  | .readMsoFreqLfoDepth => .read 0x519
  | .writeMsoFreqEnvSel v => .write 0x51A v
  | .readMsoFreqEnvSel => .read 0x51A
  | .writeMsoFreqEnvDepth v => .write 0x51B v
  | .readMsoFreqEnvDepth => .read 0x51B
  | .writeMsoPwmLfoSel v => .write 0x51C v
  | .readMsoPwmLfoSel => .read 0x51C
  | .writeMsoPwmLfoDepth v => .write 0x51D v
  | .readMsoPwmLfoDepth => .read 0x51D
  | .writeMsoPwmEnvSel v => .write 0x51E v
  | .readMsoPwmEnvSel => .read 0x51E
  | .writeMsoPwmEnvDepth v => .write 0x51F v
  | .readMsoPwmEnvDepth => .read 0x51F
  | .writeMsoAmpLfoSel v => .write 0x520 v
  | .readMsoAmpLfoSel => .read 0x520
  | .writeMsoAmpLfoDepth v => .write 0x521 v
  | .readMsoAmpLfoDepth => .read 0x521
  | .writeMsoAmpEnvSel v => .write 0x522 v
  | .readMsoAmpEnvSel => .read 0x522
  | .writeMsoAmpEnvDepth v => .write 0x523 v
  | .readMsoAmpEnvDepth => .read 0x523
  | .writePadEnable v => .write 0x600 v
  | .readPadEnable => .read 0x600
  | .writePadOctave v => .write 0x603 v
  | .readPadOctave => .read 0x603
  | .writePadSemitone v => .write 0x604 v
  | .readPadSemitone => .read 0x604
  | .writePadCents v => .write 0x605 v
  | .readPadCents => .read 0x605
  | .writePadSendF1 v => .write 0x606 v
  | .readPadSendF1 => .read 0x606
  | .writePadSendF2 v => .write 0x607 v
  | .readPadSendF2 => .read 0x607
  | .writePadFreqLfoSel v => .write 0x618 v
  | .readPadFreqLfoSel => .read 0x618
  | .writePadFreqLfoDepth v => .write 0x619 v
  | .readPadFreqLfoDepth => .read 0x619
  | .writePadFreqEnvSel v => .write 0x61A v
  | .readPadFreqEnvSel => .read 0x61A
  | .writePadFreqEnvDepth v => .write 0x61B v
  | .readPadFreqEnvDepth => .read 0x61B
  | .writePadAmpLfoSel v => .write 0x620 v
  | .readPadAmpLfoSel => .read 0x620
  | .writePadAmpLfoDepth v => .write 0x621 v
  | .readPadAmpLfoDepth => .read 0x621
  | .writePadAmpEnvSel v => .write 0x622 v
  | .readPadAmpEnvSel => .read 0x622
  | .writePadAmpEnvDepth v => .write 0x623 v
  | .readPadAmpEnvDepth => .read 0x623
  | .writeFilt1Freq v => .write 0x700 v
  | .readFilt1Freq => .read 0x700
  | .writeFilt1Octave v => .write 0x701 v
  | .readFilt1Octave => .read 0x701
  | .writeFilt1Q v => .write 0x702 v
  | .readFilt1Q => .read 0x702
  | .writeFilt1Band v => .write 0x703 v
  | .readFilt1Band => .read 0x703
  | .writeFilt1KbdTrack v => .write 0x704 v
  | .readFilt1KbdTrack => .read 0x704
  | .writeFilt1FreqLfoSel v => .write 0x718 v
  | .readFilt1FreqLfoSel => .read 0x718
  | .writeFilt1FreqLfoDepth v => .write 0x719 v
  | .readFilt1FreqLfoDepth => .read 0x719
  | .writeFilt1FreqEnvSel v => .write 0x71A v
  | .readFilt1FreqEnvSel => .read 0x71A
  | .writeFilt1FreqEnvDepth v => .write 0x71B v
  | .readFilt1FreqEnvDepth => .read 0x71B
  | .writeFilt2Freq v => .write 0x800 v
  | .readFilt2Freq => .read 0x800
  | .writeFilt2Octave v => .write 0x801 v
  | .readFilt2Octave => .read 0x801
  | .writeFilt2Q v => .write 0x802 v
  | .readFilt2Q => .read 0x802
  | .writeFilt2Band v => .write 0x803 v
  | .readFilt2Band => .read 0x803
  | .writeFilt2KbdTrack v => .write 0x804 v
  | .readFilt2KbdTrack => .read 0x804
  | .writeFilt2FreqLfoSel v => .write 0x818 v
  | .readFilt2FreqLfoSel => .read 0x818
  | .writeFilt2FreqLfoDepth v => .write 0x819 v
  | .readFilt2FreqLfoDepth => .read 0x819
  | .writeFilt2FreqEnvSel v => .write 0x81A v
  | .readFilt2FreqEnvSel => .read 0x81A
  | .writeFilt2FreqEnvDepth v => .write 0x81B v
  | .readFilt2FreqEnvDepth => .read 0x81B
  | .writeDist1Enable v => .write 0x900 v
  | .readDist1Enable => .read 0x900
  | .writeDist1Drive v => .write 0x901 v
  | .readDist1Drive => .read 0x901
  | .writeDist1Range v => .write 0x902 v
  | .readDist1Range => .read 0x902
  | .writeDist1Blend v => .write 0x903 v
  | .readDist1Blend => .read 0x903
  | .writeDist1AutoGain v => .write 0x904 v
  | .readDist1AutoGain => .read 0x904
  | .writeDist2Enable v => .write 0xA00 v
  | .readDist2Enable => .read 0xA00
  | .writeDist2Drive v => .write 0xA01 v
  | .readDist2Drive => .read 0xA01
  | .writeDist2Range v => .write 0xA02 v
  | .readDist2Range => .read 0xA02
  | .writeDist2Blend v => .write 0xA03 v
  | .readDist2Blend => .read 0xA03
  | .writeDist2AutoGain v => .write 0xA04 v
  | .readDist2AutoGain => .read 0xA04
  | .writeAmpGain1 v => .write 0xB00 v
  | .readAmpGain1 => .read 0xB00
  | .writeAmpPan1 v => .write 0xB01 v
  | .readAmpPan1 => .read 0xB01
  | .writeAmpGain2 v => .write 0xB02 v
  | .readAmpGain2 => .read 0xB02
  | .writeAmpPan2 v => .write 0xB03 v
  | .readAmpPan2 => .read 0xB03
  | .writeAmpPan1LfoSel v => .write 0xB18 v
  | .readAmpPan1LfoSel => .read 0xB18
  | .writeAmpPan1LfoDepth v => .write 0xB19 v
  | .readAmpPan1LfoDepth => .read 0xB19
  | .writeAmpPan1EnvSel v => .write 0xB1A v
  | .readAmpPan1EnvSel => .read 0xB1A
  | .writeAmpPan1EnvDepth v => .write 0xB1B v
  | .readAmpPan1EnvDepth => .read 0xB1B
  | .writeAmpPan2LfoSel v => .write 0xB1C v
  | .readAmpPan2LfoSel => .read 0xB1C
  | .writeAmpPan2LfoDepth v => .write 0xB1D v
  | .readAmpPan2LfoDepth => .read 0xB1D
  | .writeAmpPan2EnvSel v => .write 0xB1E v
  | .readAmpPan2EnvSel => .read 0xB1E
  | .writeAmpPan2EnvDepth v => .write 0xB1F v
  | .readAmpPan2EnvDepth => .read 0xB1F
  | .writeLfo1Waveform v => .write 0xC00 v
  | .readLfo1Waveform => .read 0xC00
  | .writeLfo1Rate v => .write 0xC01 v
  | .readLfo1Rate => .read 0xC01
  | .writeLfo1Symmetry v => .write 0xC02 v
  | .readLfo1Symmetry => .read 0xC02
  | .writeLfo2Waveform v => .write 0xC10 v
  | .readLfo2Waveform => .read 0xC10
  | .writeLfo2Rate v => .write 0xC11 v
  | .readLfo2Rate => .read 0xC11
  | .writeLfo2Symmetry v => .write 0xC12 v
  | .readLfo2Symmetry => .read 0xC12
  | .writeLfo3Waveform v => .write 0xC20 v
  | .readLfo3Waveform => .read 0xC20
  | .writeLfo3Rate v => .write 0xC21 v
  | .readLfo3Rate => .read 0xC21
  | .writeLfo3Symmetry v => .write 0xC22 v
  | .readLfo3Symmetry => .read 0xC22
  | .writeLfo4Waveform v => .write 0xC30 v
  | .readLfo4Waveform => .read 0xC30
  | .writeLfo4Rate v => .write 0xC31 v
  | .readLfo4Rate => .read 0xC31
  | .writeLfo4Symmetry v => .write 0xC32 v
  | .readLfo4Symmetry => .read 0xC32
  | .writeLfo5Waveform v => .write 0xC40 v
  | .readLfo5Waveform => .read 0xC40
  | .writeLfo5Rate v => .write 0xC41 v
  | .readLfo5Rate => .read 0xC41
  | .writeLfo5Symmetry v => .write 0xC42 v
  | .readLfo5Symmetry => .read 0xC42
  | .writeAdsr1Attack v => .write 0xD00 v
  | .readAdsr1Attack => .read 0xD00
  | .writeAdsr1Decay v => .write 0xD01 v
  | .readAdsr1Decay => .read 0xD01
  | .writeAdsr1Sustain v => .write 0xD02 v
  | .readAdsr1Sustain => .read 0xD02
  | .writeAdsr1Release v => .write 0xD03 v
  | .readAdsr1Release => .read 0xD03
  | .writeAdsr1Send1 v => .write 0xD04 v
  | .readAdsr1Send1 => .read 0xD04
  | .writeAdsr1Send2 v => .write 0xD05 v
  | .readAdsr1Send2 => .read 0xD05
  | .readAdsr1State => .read 0xD08
  | .writeAdsr2Attack v => .write 0xD10 v
  | .readAdsr2Attack => .read 0xD10
  | .writeAdsr2Decay v => .write 0xD11 v
  | .readAdsr2Decay => .read 0xD11
  | .writeAdsr2Sustain v => .write 0xD12 v
  | .readAdsr2Sustain => .read 0xD12
  | .writeAdsr2Release v => .write 0xD13 v
  | .readAdsr2Release => .read 0xD13
  | .writeAdsr2Send1 v => .write 0xD14 v
  | .readAdsr2Send1 => .read 0xD14
  | .writeAdsr2Send2 v => .write 0xD15 v
  | .readAdsr2Send2 => .read 0xD15
  | .readAdsr2State => .read 0xD18
  | .writeAdsr3Attack v => .write 0xD20 v
  | .readAdsr3Attack => .read 0xD20
  | .writeAdsr3Decay v => .write 0xD21 v
  | .readAdsr3Decay => .read 0xD21
  | .writeAdsr3Sustain v => .write 0xD22 v
  | .readAdsr3Sustain => .read 0xD22
  | .writeAdsr3Release v => .write 0xD23 v
  | .readAdsr3Release => .read 0xD23
  | .writeAdsr3Send1 v => .write 0xD24 v
  | .readAdsr3Send1 => .read 0xD24
  | .writeAdsr3Send2 v => .write 0xD25 v
  | .readAdsr3Send2 => .read 0xD25
  | .readAdsr3State => .read 0xD28
  | .writeAdsr4Attack v => .write 0xD30 v
  | .readAdsr4Attack => .read 0xD30
  | .writeAdsr4Decay v => .write 0xD31 v
  | .readAdsr4Decay => .read 0xD31
  | .writeAdsr4Sustain v => .write 0xD32 v
  | .readAdsr4Sustain => .read 0xD32
  | .writeAdsr4Release v => .write 0xD33 v
  | .readAdsr4Release => .read 0xD33
  | .writeAdsr4Send1 v => .write 0xD34 v
  | .readAdsr4Send1 => .read 0xD34
  | .writeAdsr4Send2 v => .write 0xD35 v
  | .readAdsr4Send2 => .read 0xD35
  | .readAdsr4State => .read 0xD38
  | .writeAdsr5Attack v => .write 0xD40 v
  | .readAdsr5Attack => .read 0xD40
  | .writeAdsr5Decay v => .write 0xD41 v
  | .readAdsr5Decay => .read 0xD41
  | .writeAdsr5Sustain v => .write 0xD42 v
  | .readAdsr5Sustain => .read 0xD42
  | .writeAdsr5Release v => .write 0xD43 v
  | .readAdsr5Release => .read 0xD43
  | .writeAdsr5Send1 v => .write 0xD44 v
  | .readAdsr5Send1 => .read 0xD44
  | .writeAdsr5Send2 v => .write 0xD45 v
  | .readAdsr5Send2 => .read 0xD45
  | .readAdsr5State => .read 0xD48
  | .writePadbBaseNote v => .write 0xE00 v
  | .readPadbBaseNote => .read 0xE00
  | .writePadbHarm1 v => .write 0xE01 v
  | .readPadbHarm1 => .read 0xE01
  | .writePadbHarm2 v => .write 0xE02 v
  | .readPadbHarm2 => .read 0xE02
  | .writePadbHarm3 v => .write 0xE03 v
  | .readPadbHarm3 => .read 0xE03
  | .writePadbHarm4 v => .write 0xE04 v
  | .readPadbHarm4 => .read 0xE04
  | .writePadbHarm5 v => .write 0xE05 v
  | .readPadbHarm5 => .read 0xE05
  | .writePadbHarm6 v => .write 0xE06 v
  | .readPadbHarm6 => .read 0xE06
  | .writePadbHarm7 v => .write 0xE07 v
  | .readPadbHarm7 => .read 0xE07
  | .writePadbHarm8 v => .write 0xE08 v
  | .readPadbHarm8 => .read 0xE08
  | .writePadbHarm9 v => .write 0xE09 v
  | .readPadbHarm9 => .read 0xE09
  | .writePadbHarm10 v => .write 0xE0A v
  | .readPadbHarm10 => .read 0xE0A
  | .writePadbShape v => .write 0xE0B v
  | .readPadbShape => .read 0xE0B
  | .writePadbHalfCut v => .write 0xE0C v
  | .readPadbHalfCut => .read 0xE0C
  | .writePadbBandwidth v => .write 0xE0D v
  | .readPadbBandwidth => .read 0xE0D
  | .writePadbDetuneSpread v => .write 0xE0E v
  | .readPadbDetuneSpread => .read 0xE0E
  | .writePadbQuality v => .write 0xE0F v
  | .readPadbQuality => .read 0xE0F
  | .readPadbBusy => .read 0xE10
  | .readPadbGen => .read 0xE11
  | .writeMsobBpA v => .write 0xF00 v
  | .readMsobBpA => .read 0xF00
  | .writeMsobBpB v => .write 0xF01 v
  | .readMsobBpB => .read 0xF01
  | .writeMsobBpC v => .write 0xF02 v
  | .readMsobBpC => .read 0xF02
  | .writeMsobBpD v => .write 0xF03 v
  | .readMsobBpD => .read 0xF03
  | .writeMsobBpE v => .write 0xF04 v
  | .readMsobBpE => .read 0xF04
  | .writeMsobBpF v => .write 0xF05 v
  | .readMsobBpF => .read 0xF05
  | .writeMsobSymmetry v => .write 0xF06 v
  | .readMsobSymmetry => .read 0xF06
  | .readMsobBusy => .read 0xF10
  | .readMsobGen => .read 0xF11

/-- The word of a command (30_encoding.md R251). -/
def Command.word : Command → Word
  | .nop => 0x0#4 ++ 0#28
  | .write a v => 0x1#4 ++ a ++ v
  | .read a => 0x2#4 ++ a ++ 0#16
  | .setFrequency mhz => 0x3#4 ++ mhz
  | .noteOn => 0x4#4 ++ 0#28
  | .noteOff => 0x5#4 ++ 0#28
  | .tickControl => 0x6#4 ++ 0#28
  | .renderSample => 0x7#4 ++ 0#28
  | .clearFilters => 0x8#4 ++ 0#28
  | .buildPad => 0x9#4 ++ 0#28
  | .illegal opc x => BitVec.ofNat 4 (10 + opc.val) ++ x

/-- The word of an instruction. -/
def encode (i : Instr) : Word := i.command.word

end Sys2Proof
end

