-- ==== Sys2Proof/Machine/Configure.lean ====
section
/-! DEFINITION. What reset does with a requested configuration (00_scope.md R7, R8; 60_exceptions.md R705, R706). -/

namespace Sys2Proof.Machine

/-- Legal MSO table lengths: powers of two in [64, 32768] (00_scope.md R7). -/
def msoLens : List Nat := [64, 128, 256, 512, 1024, 2048, 4096, 8192, 16384, 32768]

/-- A requested configuration with `FS` and `SUB` replaced by their defaults when out of domain (00_scope.md R8). -/
def cfgFallback (c : Cfg) : Cfg :=
  { c with fs := if c.fs = 44100 ∨ c.fs = 48000 then c.fs else 44100, sub := if 1 ≤ c.sub ∧ c.sub ≤ 256 then c.sub else 8 }

/-- The invariants of 00_scope.md R8: `MSO_LEN` legal, `OSC_MAX_FREQUENCY < FS/2`, `0 < OSC_MIN_FREQUENCY < OSC_MAX_FREQUENCY`. -/
def cfgLegal (c : Cfg) : Bool :=
  msoLens.contains c.msoLen && decide (c.oscMin.den ≠ 0) && decide (c.oscMax.den ≠ 0)
    && decide (2 * c.oscMax.num < c.fs * c.oscMax.den) && decide (0 < c.oscMin.num)
    && decide (c.oscMin.num * c.oscMax.den < c.oscMax.num * c.oscMin.den)

end Sys2Proof.Machine
end

