-- ==== Sys2Proof/Machine/Float.lean ====
section
/-! DEFINITION. IEEE 754 binary32 as bits: what a stored value is, exact comparisons (00_scope.md R12: "made on the stored
values"), exact conversions, and round to nearest even. Every finite binary32 is an integer number of units of 2^-149. Literal factors stand on the
left: the kernel unrolls a literal right operand of a sum or product of open terms. -/

namespace Sys2Proof.Machine

/-- The magnitude bits: exponent and fraction without the sign. -/
def fMag (x : F32) : Nat := x.toNat % 2 ^ 31

/-- The sign bit. -/
def fNegative (x : F32) : Bool := x.msb

/-- Neither infinite nor a NaN (40_voice.md R308 "finite"). -/
def fFinite (x : F32) : Bool := fMag x < 0x7F800000

/-- A NaN. -/
def fNaN (x : F32) : Bool := 0x7F800000 < fMag x

/-- The magnitude in units of 2^-149 of a finite value with magnitude bits `m`. -/
def magUnits (m : Nat) : Nat :=
  if m < 2 ^ 23 then m else (2 ^ 23 + m % 2 ^ 23) * 2 ^ (m / 2 ^ 23 - 1)

/-- The exact value of a finite binary32 in units of 2^-149. -/
def fUnits (x : F32) : Int := if fNegative x then -(magUnits (fMag x) : Int) else magUnits (fMag x)

/-- The order key of a value that is no NaN: signed magnitude bits. -/
def fKey (x : F32) : Int := if fNegative x then -(fMag x : Int) else fMag x

/-- `x < y` on stored values; false when one is a NaN. -/
def fLt (x y : F32) : Bool := !fNaN x && !fNaN y && decide (fKey x < fKey y)

/-- `x <= y` on stored values; false when one is a NaN. -/
def fLe (x y : F32) : Bool := !fNaN x && !fNaN y && decide (fKey x ≤ fKey y)

/-- `max(x, y)` (00_scope.md R9); a NaN in `x` stays (log 5). -/
def fMax (x y : F32) : F32 := if fLt x y then y else x

/-- `min(x, y)` (00_scope.md R9); a NaN in `x` stays (log 5). -/
def fMin (x y : F32) : F32 := if fLt y x then y else x

/-- `clamp(x, lo, hi) = min(max(x, lo), hi)` (00_scope.md R9). -/
def fClamp (x lo hi : F32) : F32 := fMin (fMax x lo) hi

/-- `-x`: negation changes the sign bit and rounds nothing. -/
def fNeg (x : F32) : F32 := x ^^^ 0x80000000#32

/-- `|x|`: rounds nothing. -/
def fAbs (x : F32) : F32 := x &&& 0x7FFFFFFF#32

/-- The canonical NaN of the reference arithmetic. -/
def fQuietNaN : F32 := 0x7FC00000#32

/-- Magnitude bits of the binary32 nearest to `n / d` units of 2^-149, ties to even; overflow gives infinity. -/
def roundMag (n d : Nat) : Nat :=
  let q := n / d
  let k := q.log2 - 23
  let m := q / 2 ^ k
  let rest := d * (q % 2 ^ k) + n % d
  let half := d * 2 ^ k
  let up := if half < 2 * rest || (half == 2 * rest && m % 2 == 1) then 1 else 0
  min (2 ^ 23 * k + m + up) 0x7F800000

/-- A binary32 from a sign and magnitude bits. -/
def fOfMag (neg : Bool) (m : Nat) : F32 := BitVec.ofNat 32 (if neg then 2 ^ 31 + m else m)

/-- The binary32 nearest to `n / d` units of 2^-149 (`d` not 0), zero with sign `zneg`. -/
def fRoundUnits (zneg : Bool) (n : Int) (d : Nat) : F32 :=
  if n = 0 then fOfMag zneg 0 else fOfMag (decide (n < 0)) (roundMag n.natAbs d)

/-- The binary32 nearest to a rational. -/
def fOfRatio (r : Ratio) : F32 := fRoundUnits false (2 ^ 149 * r.num) r.den

/-- An integer as binary32: exact for magnitudes up to 2^24, which every use in the rules has. -/
def fOfInt (i : Int) : F32 := fRoundUnits false (2 ^ 149 * i) 1

/-- A natural number as binary32, see `fOfInt`. -/
def fOfNat (n : Nat) : F32 := fOfInt n

/-- `floor` of a finite value, as an integer. -/
def fFloorInt (x : F32) : Int := fUnits x / 2 ^ 149

/-- `floor` as a real: exact in binary32; a value that is not finite stays. -/
def fFloor (x : F32) : F32 := if fFinite x then fOfInt (fFloorInt x) else x

end Sys2Proof.Machine
end

