-- ==== Sys2Proof/Machine/RefNum.lean ====
section
/-! DEFINITION. The reference arithmetic: one `NUM` that meets the tolerance of 95_test_vectors.md (00_scope.md R12). Sum,
difference, product and quotient are IEEE 754 binary32 rounded to nearest even; the transcendental functions are computed in
fixed point with 149 fraction bits and rounded once. DESIGN CHOICE, log 3. -/

namespace Sys2Proof.Machine

/-- One in fixed point: 2^149. -/
def fpOne : Int := 2 ^ 149

/-- Product of two fixed-point numbers. -/
def fpMul (x y : Int) : Int := x * y / fpOne

/-- Quotient of two fixed-point numbers (`y` not 0). -/
def fpDiv (x y : Int) : Int := x * fpOne / y

/-- pi in fixed point: 2^149 times 3.14159265358979323846264338327950288419716939937510582. -/
def fpPi : Int := 314159265358979323846264338327950288419716939937510582 * 2 ^ 149 / 10 ^ 53

/-- ln 2 in fixed point: 2^149 times 0.69314718055994530941723212145817656807550013436025525. -/
def fpLn2 : Int := 69314718055994530941723212145817656807550013436025525 * 2 ^ 149 / 10 ^ 53

/-- `fuel` terms of the series of sin: `term = x^(2k-1)/(2k-1)!` with its sign, `x2 = x*x`. -/
def fpSinTerms (x2 : Int) : Nat → Nat → Int → Int
  | 0, _, _ => 0
  | fuel + 1, k, term => term + fpSinTerms x2 fuel (k + 1) (-(fpMul term x2) / ((2 * k) * (2 * k + 1)))

/-- sin in fixed point: the argument is brought into [-pi, pi), then 34 terms of the series. -/
def fpSin (x : Int) : Int :=
  let r := (x + fpPi) % (2 * fpPi) - fpPi
  fpSinTerms (fpMul r r) 34 1 r

/-- Terms of Euler's series of atan: `q = x^2/(1+x^2)`. -/
def fpAtanTerms (q : Int) : Nat → Nat → Int → Int
  | 0, _, _ => 0
  | fuel + 1, k, term => term + fpAtanTerms q fuel (k + 1) (fpMul term q * (2 * k + 2) / (2 * k + 3))

/-- atan in fixed point for |x| <= 1. -/
def fpAtanSmall (x : Int) : Int :=
  let d := fpOne + fpMul x x
  fpAtanTerms (fpDiv (fpMul x x) d) 90 0 (fpDiv x d)

/-- atan in fixed point. -/
def fpAtan (x : Int) : Int :=
  if x.natAbs ≤ fpOne.natAbs then fpAtanSmall x
  else (if x < 0 then -(fpPi / 2) else fpPi / 2) - fpAtanSmall (fpDiv fpOne x)

/-- Terms of the series of exp. -/
def fpExpTerms (x : Int) : Nat → Nat → Int → Int
  | 0, _, _ => 0
  | fuel + 1, k, term => term + fpExpTerms x fuel (k + 1) (fpMul term x / (k + 1))

/-- `2^x` of a fixed-point `x`, as binary32. -/
def exp2Round (x : Int) : F32 :=
  if 129 * fpOne ≤ x then 0x7F800000#32
  else if x < -151 * fpOne then 0#32
  else
    let n := x / fpOne
    let m := (fpExpTerms (fpMul (x % fpOne) fpLn2) 34 0 fpOne).natAbs
    if 0 ≤ n then fOfMag false (roundMag (m * 2 ^ n.toNat) 1) else fOfMag false (roundMag m (2 ^ (-n).toNat))

/-- Terms of the series of artanh: `z2 = z*z`, `pow = z^(2k+1)`. -/
def fpArtanhTerms (z2 : Int) : Nat → Nat → Int → Int
  | 0, _, _ => 0
  | fuel + 1, k, pow => pow / (2 * k + 1) + fpArtanhTerms z2 fuel (k + 1) (fpMul pow z2)

/-- log2 of a positive number of units of 2^-149, in fixed point. -/
def fpLog2 (u : Nat) : Int :=
  let e := u.log2
  let m : Int := (2 ^ 149 * u / 2 ^ e : Nat)
  let z := fpDiv (m - fpOne) (m + fpOne)
  ((e : Int) - 149) * fpOne + fpDiv (2 * fpArtanhTerms (fpMul z z) 48 0 z) fpLn2

/-- Sum of two signed finite values or the IEEE result for infinities. -/
def refAdd (x y : F32) : F32 :=
  if fNaN x || fNaN y then fQuietNaN
  else if !fFinite x then (if !fFinite y && x != y then fQuietNaN else x)
  else if !fFinite y then y
  else fRoundUnits (fNegative x && fNegative y) (fUnits x + fUnits y) 1

/-- Difference. -/
def refSub (x y : F32) : F32 := refAdd x (fNeg y)

/-- Product. -/
def refMul (x y : F32) : F32 :=
  let neg := fNegative x != fNegative y
  if fNaN x || fNaN y then fQuietNaN
  else if !fFinite x || !fFinite y then (if fMag x = 0 || fMag y = 0 then fQuietNaN else fOfMag neg 0x7F800000)
  else fRoundUnits neg (fUnits x * fUnits y) (2 ^ 149)

/-- Quotient. -/
def refDiv (x y : F32) : F32 :=
  let neg := fNegative x != fNegative y
  if fNaN x || fNaN y then fQuietNaN
  else if !fFinite x then (if !fFinite y then fQuietNaN else fOfMag neg 0x7F800000)
  else if !fFinite y then fOfMag neg 0
  else if fMag y = 0 then (if fMag x = 0 then fQuietNaN else fOfMag neg 0x7F800000)
  else fOfMag neg (if fMag x = 0 then 0 else roundMag (2 ^ 149 * (fUnits x).natAbs) (fUnits y).natAbs)

/-- A function of one finite argument, computed in fixed point; of a value that is not finite it is a NaN. -/
def refFn (f : Int → F32) (x : F32) : F32 := if fFinite x then f (fUnits x) else fQuietNaN

/-- `b^y`: `1` for `y = 0`, `2^(y*log2 b)` for `b > 0`, `0` for `b = 0 < y`, a NaN otherwise. -/
def refPow (b y : F32) : F32 :=
  if !fFinite b || !fFinite y then fQuietNaN
  else if fMag y = 0 then fOfInt 1
  else if fMag b = 0 then (if fNegative y then fQuietNaN else 0#32)
  else if fNegative b then fQuietNaN
  else exp2Round (fpMul (fUnits y) (fpLog2 (magUnits (fMag b))))

/-- The reference arithmetic. -/
def refNum : Num where
  ofRatio := fOfRatio
  pi := fRoundUnits false fpPi 1
  add := refAdd
  sub := refSub
  mul := refMul
  div := refDiv
  sin := refFn fun x => fRoundUnits false (fpSin x) 1
  cos := refFn fun x => fRoundUnits false (fpSin (x + fpPi / 2)) 1
  atan := refFn fun x => fRoundUnits false (fpAtan x) 1
  exp := refFn fun x => exp2Round (fpDiv x fpLn2)
  exp2 := refFn exp2Round
  exp10 := refFn fun x => exp2Round (fpMul x (fpLog2 (10 * 2 ^ 149)))
  pow := refPow
  floorNonFinite := fun _ => 0

/-- The arithmetic a selection names (00_scope.md R12). -/
def numOf : NumSel → Num
  | .reference => refNum
  | .implementation k => Config.numImpl k

end Sys2Proof.Machine
end

