-- ==== Sys2Proof/Machine/Num.lean ====
section
/-! DEFINITION. Shorthands of the formulas: constants and register scalings as `NUM` computes them (00_scope.md R12). -/

namespace Sys2Proof.Machine

/-- The real constant `n/d` of a formula, rounded by `NUM`. -/
def numRat (N : Num) (n : Int) (d : Nat) : F32 := N.ofRatio ⟨n, d⟩

/-- A register of domain 0..100 as a level, depth, send or gain: `v/100` (40_voice.md R312). -/
def numPct (N : Num) (v : Int) : F32 := N.div (fOfInt v) (fOfInt 100)

/-- `2*pi`. -/
def numTwoPi (N : Num) : F32 := N.mul (fOfInt 2) N.pi

/-- `pi/2`. -/
def numHalfPi (N : Num) : F32 := N.div N.pi (fOfInt 2)

/-- `2/pi`. -/
def numTwoOverPi (N : Num) : F32 := N.div (fOfInt 2) N.pi

/-- A sum in list order, from its first term on (log 4). -/
def numSum (N : Num) (xs : List F32) : F32 :=
  match xs with
  | [] => fOfInt 0
  | x :: rest => rest.foldl N.add x

/-- `floor(x)` as an integer; of a value that is not finite, whatever `NUM` gives (log 5). -/
def numFloor (N : Num) (x : F32) : Int := if fFinite x then fFloorInt x else N.floorNonFinite x

/-- An integer brought into `lo..hi` (00_scope.md R9). -/
def intClamp (x lo hi : Int) : Int := min (max x lo) hi

/-- The 0..100 or symmetry slider mapping of pulse widths: `0.5 + 0.45*x` (40_voice.md R324, 41_adsr_lfo.md R422). -/
def numWidth (N : Num) (x : F32) : F32 := N.add (numRat N 5 10) (N.mul (numRat N 45 100) x)

/-- `440 * 2^((note - 69)/12)` Hz (46_pad.md R601). -/
def noteFreq (N : Num) (note : Int) : F32 := N.mul (fOfInt 440) (N.exp2 (N.div (fOfInt (note - 69)) (fOfInt 12)))

end Sys2Proof.Machine
end

