-- ==== Sys2Proof/Machine/Prng.lean ====
section
/-! DEFINITION. The 32-bit linear congruential generator of every random source (43_noise.md R500 to R502). -/

namespace Sys2Proof.Machine

/-- `x' = (1664525 * x + 1013904223) mod 2^32` (43_noise.md R500). -/
def prngNext (x : BitVec 32) : BitVec 32 := 1013904223#32 + 1664525#32 * x

/-- `seed(vid, unit) = ((16*vid + unit + 1) * 2654435761) mod 2^32` (43_noise.md R501). -/
def prngSeed (vid unit : Nat) : BitVec 32 := BitVec.ofNat 32 (2654435761 * (16 * vid + unit + 1))

/-- The value of a state: `zext(x[31:8]) / 2^23 - 1.0`, exact in binary32 (43_noise.md R502). -/
def prngWhite (x : BitVec 32) : F32 := fOfRatio ⟨-8388608 + (x.toNat / 256 : Nat), 8388608⟩

/-- `white_next`: the value drawn and the new state (43_noise.md R502). -/
def whiteNext (x : BitVec 32) : F32 × BitVec 32 := (prngWhite (prngNext x), prngNext x)

end Sys2Proof.Machine
end

