-- ==== Sys2Proof/Machine/State.lean ====
section
/-! DEFINITION. Every piece of state the spec gives the machine (10_state.md), the reasons a step can stop, and the machine right
after reset (10_state.md R80 to R82, 70_reset_and_hazards.md R751). -/

namespace Sys2Proof.Machine

/-- Why the machine stops. -/
inductive Fault where
  /-- Raised by `tableRead` (so by RENDER_SAMPLE with MSO or PAD enabled) for an element index outside a table: "a fault of the
  model, never a value" (20_memory.md R203, 93_implementation_defined.md I11). Safe: no reachable state has an empty table. -/
  | tableIndex
  deriving DecidableEq, Repr

/-- Why an instruction has no meaning. -/
inductive Refusal where
  /-- Raised by `exec` for an instruction that is not modelled yet; no arm does. Safe. -/
  | notModelled (mnemonic : String)
  deriving DecidableEq, Repr

/-- One unison layer of an oscillator (10_state.md R63). -/
structure Layer where
  phase : F32
  hold : F32
  deriving DecidableEq, Repr

/-- Nine of a kind: the unison layers 0..8 (`N_UNISON`). -/
structure Nine (α : Type) where
  e0 : α
  e1 : α
  e2 : α
  e3 : α
  e4 : α
  e5 : α
  e6 : α
  e7 : α
  e8 : α
  deriving DecidableEq, Repr

/-- Five of a kind: LFO1..LFO5 and ADSR1..ADSR5 (`N_LFO`, `N_ADSR`). -/
structure Five (α : Type) where
  e1 : α
  e2 : α
  e3 : α
  e4 : α
  e5 : α
  deriving DecidableEq, Repr

/-- One oscillator (R63). -/
structure Osc where
  layers : Nine Layer
  prng : BitVec 32
  wrapped : Bool
  deriving DecidableEq, Repr

/-- The noise generator (R64). -/
structure Noise where
  prng : BitVec 32
  b0 : F32
  b1 : F32
  b2 : F32
  b3 : F32
  b4 : F32
  b5 : F32
  b6 : F32
  brown : F32
  deriving DecidableEq, Repr

/-- The Karplus-Strong string (R65). `buf` lists the delay-line elements that are not 0.0 (log 14). -/
structure Ks where
  buf : List (Nat × F32)
  len : Nat
  pos : Nat
  held : Bool
  energy : F32
  fPluck : F32
  prng : BitVec 32
  deriving DecidableEq, Repr

/-- The integrators of one filter (R68). -/
structure Filt where
  lp : F32
  bp : F32
  deriving DecidableEq, Repr

/-- One LFO (R69). -/
structure Lfo where
  phase : F32
  hold : F32
  out : F32
  prng : BitVec 32
  deriving DecidableEq, Repr

/-- The states of an envelope (R70, 41_adsr_lfo.md R400). -/
inductive AdsrState where
  | idle
  | attack
  | decay
  | sustain
  | release
  | forceRelease
  | offRelease
  deriving DecidableEq, Repr

/-- One envelope (R70). -/
structure Adsr where
  state : AdsrState
  level : F32
  held : Bool
  forceStep : F32
  elapsed : BitVec 32
  deriving DecidableEq, Repr

/-- The tick-latched quantities (R62): `fX` the actual frequency, `pwX` the pulse width, `ampX` the amplitude factor, `envX` its
envelope part, `ffmC` the filter modulation and `panC` the pan of channel C. -/
structure Latched where
  fOsc1 : F32
  fOsc2 : F32
  fMso : F32
  fPad : F32
  pwOsc1 : F32
  pwOsc2 : F32
  pwMso : F32
  ampOsc1 : F32
  ampOsc2 : F32
  ampNoise : F32
  ampMso : F32
  ampPad : F32
  envOsc1 : F32
  envOsc2 : F32
  envNoise : F32
  envMso : F32
  envPad : F32
  ffm1 : F32
  ffm2 : F32
  pan1 : F32
  pan2 : F32
  deriving DecidableEq, Repr

/-- One Voice Core (R50, R55, R60 to R70). `core` is the number of its command port (60_exceptions.md R717). `regs` lists the
parameter registers of units 0x0 to 0xD that differ from their reset value (log 14). -/
structure Voice where
  core : Nat
  voiceId : BitVec 8
  regs : List (Nat × RegVal)
  status : BitVec 5
  halted : Bool
  voiceFreq : F32
  inUse : Bool
  active : Bool
  waits : Bool
  lat : Latched
  osc1 : Osc
  osc2 : Osc
  noise : Noise
  ks : Ks
  msoIdx : F32
  padPos : F32
  padLenSeen : Nat
  filt1 : Filt
  filt2 : Filt
  lfo : Five Lfo
  adsr : Five Adsr
  deriving DecidableEq, Repr

/-- One PAD bank (R71): its length, the base frequency it was built for, and the elements that are not 0.0 (log 14). -/
structure PadBank where
  len : Nat
  f0 : F32
  elems : List (Nat × F32)
  deriving DecidableEq, Repr

/-- The register snapshot of a PAD build (46_pad.md R611). -/
structure PadSnap where
  baseNote : RegVal
  harm1 : RegVal
  harm2 : RegVal
  harm3 : RegVal
  harm4 : RegVal
  harm5 : RegVal
  harm6 : RegVal
  harm7 : RegVal
  harm8 : RegVal
  harm9 : RegVal
  harm10 : RegVal
  shape : RegVal
  halfCut : RegVal
  bandwidth : RegVal
  detuneSpread : RegVal
  quality : RegVal
  deriving DecidableEq, Repr

/-- The register snapshot of an MSO build (45_mso.md R577). -/
structure MsoSnap where
  a : RegVal
  b : RegVal
  c : RegVal
  d : RegVal
  e : RegVal
  f : RegVal
  symmetry : RegVal
  deriving DecidableEq, Repr

/-- What all voices of a program share (R71, R72): the registers of units PADB and MSOB, the tables and the Table Builder. `msom0`,
`msom1` and `msoBase` list the elements that differ from the base table (log 14). `padWait`, `msoWait` and `builds` are the model's
own (log 7): the voice steps left until a running build's swap, and the number of builds started. -/
structure Program where
  regs : List (Nat × RegVal)
  pad0 : PadBank
  pad1 : PadBank
  padSel : Bool
  msom0 : List (Nat × F32)
  msom1 : List (Nat × F32)
  msoBase : List (Nat × F32)
  msoSel : Bool
  padBusy : Bool
  padPending : Bool
  padGen : BitVec 16
  padSnap : PadSnap
  padWait : Nat
  msoBusy : Bool
  msoPending : Bool
  msoGen : BitVec 16
  msoSnap : MsoSnap
  msoWait : Nat
  builds : Nat
  deriving DecidableEq, Repr

/-- What the last step delivered on the response port, the audio port (`(L, R)`) and the event port (30_encoding.md R262, R264,
R265; log 10). -/
structure PortOut where
  response : Option Word
  audio : Option (F32 × F32)
  event : Option (BitVec 8)
  deriving DecidableEq, Repr

/-- The whole machine: configuration, the core whose command is executed, the other cores of the program by rising core number, the
shared state, the command words not executed yet (each with its core's number; log 9) and the last outputs. DESIGN CHOICE (log 27):
10_state.md R50 makes the configuration part of each core's state and 00_scope.md R7 calls only VOICE_ID per core; whether another
parameter may differ between cores the spec does not say, and the field `cfg` is one configuration for all of them. -/
structure State where
  cfg : Cfg
  voice : Voice
  others : List Voice
  program : Program
  port : List (Nat × Word)
  out : PortOut
  deriving DecidableEq, Repr

/-- Nothing on any port. -/
def PortOut.silent : PortOut := ⟨none, none, none⟩

/-- Nine equal elements. -/
def Nine.const {α : Type} (x : α) : Nine α := ⟨x, x, x, x, x, x, x, x, x⟩

/-- 440.0 (10_state.md R81). -/
def f440 : F32 := 0x43DC0000#32

/-- 0.5 (10_state.md R81). -/
def fHalf : F32 := 0x3F000000#32

/-- 1.0 (10_state.md R81). -/
def fOne : F32 := 0x3F800000#32

/-- An oscillator after reset: `seed(VOICE_ID, unit)`, everything else 0 (10_state.md R81). -/
def Osc.reset (vid : BitVec 8) (unit : Nat) : Osc := ⟨Nine.const ⟨0, 0⟩, prngSeed vid.toNat unit, false⟩

/-- An LFO after reset (10_state.md R81). -/
def Lfo.reset (vid : BitVec 8) (unit : Nat) : Lfo := ⟨0, 0, 0, prngSeed vid.toNat unit⟩

/-- An envelope after reset (10_state.md R81). -/
def Adsr.reset : Adsr := ⟨.idle, 0, false, 0, 0⟩

/-- The tick-latched values after reset (10_state.md R81). -/
def Latched.reset : Latched where
  fOsc1 := f440
  fOsc2 := f440
  fMso := f440
  fPad := f440
  pwOsc1 := fHalf
  pwOsc2 := fHalf
  pwMso := fHalf
  ampOsc1 := fOne
  ampOsc2 := fOne
  ampNoise := fOne
  ampMso := fOne
  ampPad := fOne
  envOsc1 := fOne
  envOsc2 := fOne
  envNoise := fOne
  envMso := fOne
  envPad := fOne
  ffm1 := 0
  ffm2 := 0
  pan1 := 0
  pan2 := 0

/-- A voice after reset (10_state.md R80, R81); `fell` says that the fallback of 00_scope.md R8 was taken. DESIGN CHOICE (log 25): where
the configured bounds exclude 440 Hz, R81's reset value 440.0 stands against the range that R61 states for `st.voice_freq`. -/
def Voice.reset (c : Cfg) (fell : Bool) (core : Nat) (vid : BitVec 8) : Voice where
  core := core
  voiceId := vid
  regs := []
  status := if fell then 0x10 else 0
  halted := !cfgLegal c
  voiceFreq := f440
  inUse := false
  active := false
  waits := false
  lat := .reset
  osc1 := .reset vid 2
  osc2 := .reset vid 3
  noise := ⟨prngSeed vid.toNat 0, 0, 0, 0, 0, 0, 0, 0, 0⟩
  ks := ⟨[], 2, 0, false, 0, fOfRatio ⟨c.fs, 2⟩, prngSeed vid.toNat 1⟩
  msoIdx := 0
  padPos := 0
  padLenSeen := 2 ^ 15
  filt1 := ⟨0, 0⟩
  filt2 := ⟨0, 0⟩
  lfo := ⟨.reset vid 4, .reset vid 5, .reset vid 6, .reset vid 7, .reset vid 8⟩
  adsr := ⟨.reset, .reset, .reset, .reset, .reset⟩

/-- The snapshot of the reset values of the PADB registers (the spec gives `pad_snap` no reset value: DESIGN CHOICE, log 13). -/
def PadSnap.reset : PadSnap := ⟨60, 100, 0, 0, 0, 0, 0, 0, 0, 0, 0, 1, 0, 20, 0, 0⟩

/-- The snapshot of the reset values of the MSOB registers (DESIGN CHOICE, log 13). -/
def MsoSnap.reset (L : Nat) : MsoSnap :=
  ⟨regReset L 0xF00, regReset L 0xF01, regReset L 0xF02, regReset L 0xF03, regReset L 0xF04, regReset L 0xF05, regReset L 0xF06⟩

/-- The program-level state after reset (10_state.md R82). -/
def Program.reset (c : Cfg) : Program where
  regs := []
  pad0 := ⟨2 ^ 15, noteFreq (numOf c.num) 60, []⟩
  pad1 := ⟨2 ^ 15, noteFreq (numOf c.num) 60, []⟩
  padSel := false
  msom0 := []
  msom1 := []
  msoBase := []
  msoSel := false
  padBusy := false
  padPending := false
  padGen := 0
  padSnap := .reset
  padWait := 0
  msoBusy := false
  msoPending := false
  msoGen := 0
  msoSnap := .reset c.msoLen
  msoWait := 0
  builds := 0

/-- The cores 1, 2, ... with their identities. -/
def resetVoices (c : Cfg) (fell : Bool) : Nat → List (BitVec 8) → List Voice
  | _, [] => []
  | n, vid :: vids => Voice.reset c fell n vid :: resetVoices c fell (n + 1) vids

/-- Power-on reset with a requested configuration (70_reset_and_hazards.md R750, R751): the fallback of 00_scope.md R8 first, then
every register and every piece of state; the command ports are empty and any build in progress is gone. DESIGN CHOICE (log 11):
00_scope.md R7 gives N_VOICES as 1..256 and says nothing of other values; an empty list of identities gives one core with VOICE_ID 0,
and a list longer than 256, or with an identity twice, is taken as it is. DESIGN CHOICE (log 27): `req` is the one configuration of
all cores, so FS, SUB, the quirks and NUM are the same in each and only the identity differs. -/
def State.resetWith (req : Cfg) : State :=
  let c := cfgFallback req
  let fell := decide (c ≠ req)
  { cfg := c
    voice := Voice.reset c fell 0 (c.voiceIds.headD 0)
    others := resetVoices c fell 1 c.voiceIds.tail
    program := Program.reset c
    port := []
    out := .silent }

/-- The machine right after reset, in the default configuration (log 2, log 11, log 12). -/
def State.reset : State := State.resetWith Cfg.default

/-- The arithmetic of the core (00_scope.md R12). -/
def State.num (s : State) : Num := numOf s.cfg.num

end Sys2Proof.Machine
end

