-- ==== Sys2Proof/Machine/Flags.lean ====
section
/-! DEFINITION. The sticky STATUS register (10_state.md R60, 60_exceptions.md R702). -/

namespace Sys2Proof.Machine

/-- The bits of STATUS (10_state.md R60). -/
inductive StatusBit where
  | cmdReserved
  | badAddr
  | roWrite
  | rtFault
  | cfgFallback
  deriving DecidableEq, Repr

/-- The mask of a STATUS bit (10_state.md R60). -/
def statusMask : StatusBit → BitVec 5
  | .cmdReserved => 0x01
  | .badAddr => 0x02
  | .roWrite => 0x04
  | .rtFault => 0x08
  | .cfgFallback => 0x10

/-- `raise STATUS.X`: bitwise OR (60_exceptions.md R702). -/
def statusRaise (st : BitVec 5) (b : StatusBit) : BitVec 5 := st ||| statusMask b

/-- A write of 1 to a bit clears it (40_voice.md R302: `st.status AND NOT zext_16(v_in)[4:0]`). -/
def statusClear (st : BitVec 5) (v : RegVal) : BitVec 5 := st &&& ~~~v.extractLsb' 0 5

/-- `raise STATUS.X` on the core whose command is executed. -/
def raiseStatus (s : State) (b : StatusBit) : State :=
  { s with voice := { s.voice with status := statusRaise s.voice.status b } }

end Sys2Proof.Machine
end

