-- ==== Sys2Proof/Machine/Operands.lean ====
section
/-! DEFINITION. Operands of commands and their clamps (30_encoding.md R253 to R255, 40_voice.md R302, R304, R314), the response word
(R262, R263). -/

namespace Sys2Proof.Machine

/-- `UNIT = PADDR[11:8]` (30_encoding.md R255). -/
def unitOf (a : PAddr) : Nat := a.toNat / 256

/-- The requested frequency `FREQ_MHZ / 1000` Hz, exact (30_encoding.md R254). -/
def freqReq (mhz : BitVec 28) : Ratio := ⟨mhz.toNat, 1000⟩

/-- `x <= y` on exact rationals. -/
def ratioLe (x y : Ratio) : Bool := decide (x.num * y.den ≤ y.num * x.den)

/-- `clamp` on exact rationals (00_scope.md R9). -/
def ratioClamp (x lo hi : Ratio) : Ratio :=
  let y := if ratioLe lo x then x else lo
  if ratioLe y hi then y else hi

/-- The clamp of an LFO selector (40_voice.md R314): negative gives 0, else index at most 5 and delay code at most 4, the other
bits dropped. -/
def lfoSelClamp (v : RegVal) : Int :=
  if v.toInt < 0 then 0 else 16 * (min (v.toNat / 16 % 8) 4 : Nat) + (min (v.toNat % 8) 5 : Nat)

/-- `domain_clamp(a, v_in)` for a register of domain `d` (40_voice.md R302, R314). -/
def domainClamp (L : Nat) (d : Domain) (v : RegVal) : Int :=
  match d with
  | .range lo hi => intClamp v.toInt lo hi
  | .lfoSel => lfoSelClamp v
  | .tablePos => intClamp v.toInt 0 ((L : Int) - 1)

/-- A value lies in a domain (10_state.md R52, R53). -/
def inDomain (L : Nat) (d : Domain) (v : Int) : Bool :=
  match d with
  | .range lo hi => decide (lo ≤ v) && decide (v ≤ hi)
  | .lfoSel => decide (0 ≤ v) && decide (v % 16 ≤ 5) && decide (v / 16 ≤ 4)
  | .tablePos => decide (0 ≤ v) && decide (v ≤ (L : Int) - 1)

/-- `quirk_target(a)` (40_voice.md R336): with `QUIRK_MSO_SETTERS`, a write to MSO.PWM_ENV_SEL goes to MSO.FREQ_ENV_SEL and one to
MSO.PWM_ENV_DEPTH to MSO.PWM_LFO_DEPTH. -/
def quirkTarget (quirk : Bool) (a : PAddr) : PAddr :=
  if quirk && a == 0x51E#12 then 0x51A#12 else if quirk && a == 0x51F#12 then 0x51D#12 else a

/-- The response codes (30_encoding.md R263). -/
inductive Rc where
  | ok
  | okClamped
  | errCmd
  | errConfig
  deriving DecidableEq, Repr

/-- The number of a response code (30_encoding.md R263). -/
def rcCode : Rc → BitVec 2
  | .ok => 0
  | .okClamped => 1
  | .errCmd => 2
  | .errConfig => 3

/-- The response word: RC in bits 31..30, DATA in bits 15..0, the rest 0 (30_encoding.md R262). -/
def responseWord (rc : Rc) (data : BitVec 16) : Word := rcCode rc ++ 0#14 ++ data

end Sys2Proof.Machine
end

