-- ==== Sys2Proof/Machine/RegNames.lean ====
section
/-! DEFINITION. Names of units and register indices (30_encoding.md R256, 10_state.md R54), for the formulas. -/

namespace Sys2Proof.Machine

/-- First address of unit OSC1. -/
abbrev uOsc1 : Nat := 0x100
/-- First address of unit OSC2. -/
abbrev uOsc2 : Nat := 0x200
/-- First address of unit NOISE. -/
abbrev uNoise : Nat := 0x300
/-- First address of unit KS. -/
abbrev uKs : Nat := 0x400
/-- First address of unit MSO. -/
abbrev uMso : Nat := 0x500
/-- First address of unit PAD. -/
abbrev uPad : Nat := 0x600
/-- First address of unit FILT1. -/
abbrev uFilt1 : Nat := 0x700
/-- First address of unit FILT2. -/
abbrev uFilt2 : Nat := 0x800
/-- First address of unit DIST1. -/
abbrev uDist1 : Nat := 0x900
/-- First address of unit DIST2. -/
abbrev uDist2 : Nat := 0xA00
/-- First address of unit AMP. -/
abbrev uAmp : Nat := 0xB00
/-- First address of LFO1. -/
abbrev uLfo : Nat := 0xC00
/-- First address of ADSR1. -/
abbrev uAdsr : Nat := 0xD00
/-- First address of unit PADB. -/
abbrev uPadb : Nat := 0xE00
/-- First address of unit MSOB. -/
abbrev uMsob : Nat := 0xF00

/-- ENABLE of a generator or a distortion unit. -/
abbrev rEnable : Nat := 0x00
/-- WAVEFORM. -/
abbrev rWaveform : Nat := 0x01
/-- PWM_PERCENT. -/
abbrev rPwm : Nat := 0x02
/-- OCTAVE of a generator. -/
abbrev rOctave : Nat := 0x03
/-- SEMITONE. -/
abbrev rSemitone : Nat := 0x04
/-- CENTS. -/
abbrev rCents : Nat := 0x05
/-- SEND_F1. -/
abbrev rSend1 : Nat := 0x06
/-- SEND_F2. -/
abbrev rSend2 : Nat := 0x07
/-- SYNC. -/
abbrev rSync : Nat := 0x08
/-- UNISON_MODE. -/
abbrev rUniMode : Nat := 0x09
/-- UNISON_DETUNE. -/
abbrev rUniDetune : Nat := 0x0A
/-- UNISON_DIST. -/
abbrev rUniDist : Nat := 0x0B
/-- UNISON_LEVEL0. -/
abbrev rUniLevel : Nat := 0x0C
/-- The FREQ slot, or the PAN1 slot of AMP. -/
abbrev slotFreq : Nat := 0x18
/-- The PWM slot, or the PAN2 slot of AMP. -/
abbrev slotPwm : Nat := 0x1C
/-- The AMP slot. -/
abbrev slotAmp : Nat := 0x20

end Sys2Proof.Machine
end

