-- ==== Sys2Proof/Machine/Ops.lean ====
section
/-! DEFINITION. The named operations over registers and tables, the response of a command, and its errors. The core has no
exceptions (60_exceptions.md R701): `rejectCommand` is what the spec has in their place, and the next command is the return. -/

namespace Sys2Proof.Machine

/-- The register an address names is per program: units 0xE and 0xF (20_memory.md R201). -/
def isShared (k : Nat) : Bool := 0xE00 ≤ k

/-- `reg[a]`: the stored value of a parameter register (00_scope.md R10). -/
def regAt (s : State) (k : Nat) : RegVal :=
  if isShared k then storeGet (regReset s.cfg.msoLen) s.program.regs k else storeGet (regReset s.cfg.msoLen) s.voice.regs k

/-- `reg[a]` as a signed integer (10_state.md R52). -/
def regInt (s : State) (k : Nat) : Int := (regAt s k).toInt

/-- `reg[a]` of a register whose domain has no negative values. -/
def regNat (s : State) (k : Nat) : Nat := (regInt s k).toNat

/-- `reg[a] <- v` (00_scope.md R10). -/
def setReg (s : State) (k : Nat) (v : RegVal) : State :=
  if isShared k then { s with program := { s.program with regs := storeSet (regReset s.cfg.msoLen) s.program.regs k v } }
  else { s with voice := { s.voice with regs := storeSet (regReset s.cfg.msoLen) s.voice.regs k v } }

/-- `reg[a]/100` (40_voice.md R312). -/
def regPct (s : State) (k : Nat) : F32 := numPct s.num (regInt s k)

/-- `en(X)`: `X.ENABLE == 1` (40_voice.md R326). -/
def enabled (s : State) (u : Nat) : Bool := regInt s (u + rEnable) == 1

/-- `TableRead(T, i)`: element `i` of a table of `len` elements; `none` outside it (20_memory.md R203). -/
def tableRead (d : Nat → F32) (t : List (Nat × F32)) (len i : Nat) : Option F32 := if i < len then some (storeGet d t i) else none

/-- One of five, k = 1..5. -/
def fiveGet {α : Type} (x : Five α) (k : Nat) : α :=
  match k with
  | 1 => x.e1
  | 2 => x.e2
  | 3 => x.e3
  | 4 => x.e4
  | _ => x.e5

/-- The nine as a list, 0..8. -/
def nineList {α : Type} (x : Nine α) : List α := [x.e0, x.e1, x.e2, x.e3, x.e4, x.e5, x.e6, x.e7, x.e8]

/-- The same change to each of the nine. -/
def nineMap {α : Type} (f : α → α) (x : Nine α) : Nine α :=
  ⟨f x.e0, f x.e1, f x.e2, f x.e3, f x.e4, f x.e5, f x.e6, f x.e7, f x.e8⟩

/-- `OSC_MIN_FREQUENCY` as a stored value. -/
def oscMinF (s : State) : F32 := s.num.ofRatio s.cfg.oscMin

/-- `OSC_MAX_FREQUENCY` as a stored value. -/
def oscMaxF (s : State) : F32 := s.num.ofRatio s.cfg.oscMax

/-- Deliver a command's outputs: `respond(rc, data)`, `emit audio`, `emit voice_end` (00_scope.md R10; 30_encoding.md R262, R264,
R265). -/
def deliver (s : State) (rc : Rc) (data : BitVec 16) (audio : Option (F32 × F32)) (event : Option (BitVec 8)) : State :=
  { s with out := ⟨some (responseWord rc data), audio, event⟩ }

/-- `respond(rc, data)`, with nothing on the other ports. -/
def respond (s : State) (rc : Rc) (data : BitVec 16) : State := deliver s rc data none none

/-- A command that fails: the STATUS bit is raised, ERR_CMD with data 0 is the response, and nothing else changes
(60_exceptions.md R701, R703). -/
def rejectCommand (s : State) (b : StatusBit) : State := respond (raiseStatus s b) .errCmd 0

/-- Every command first looks at `st.cfg_halted`: a halted core changes no state and responds ERR_CONFIG (40_voice.md R300;
60_exceptions.md R704, R706). -/
def unlessHalted (s : State) (run : State → Host.Outcome State Fault Refusal) : Host.Outcome State Fault Refusal :=
  if s.voice.halted then .next (respond s .errConfig 0) else run s

/-- An illegal word: a reserved opcode or a reserved-zero bit set (30_encoding.md R259). -/
def illegalWord (s : State) : Host.Outcome State Fault Refusal :=
  unlessHalted s fun s => .next (rejectCommand s .cmdReserved)

end Sys2Proof.Machine
end

