-- ==== Sys2Proof/Machine/Wave.lean ====
section
/-! DEFINITION. The waveform function shared by oscillators and LFOs (42_oscillator.md R466, R453 to R457). -/

namespace Sys2Proof.Machine

/-- Sine: `sin(2*pi*p)` (R453). -/
def waveSine (N : Num) (p : F32) : F32 := N.sin (N.mul (numTwoPi N) p)

/-- Square: `+1` for `p < 0.5`, else `-1` (R454). -/
def waveSquare (p : F32) : F32 := if fLt p fHalf then fOfInt 1 else fOfInt (-1)

/-- Pulse: `+1` for `p < pw`, else `-1` (R455). -/
def wavePulse (p pw : F32) : F32 := if fLt p pw then fOfInt 1 else fOfInt (-1)

/-- Triangle with symmetry: `-1 + 2*p/pw` for `p < pw`, else `1 - 2*(p - pw)/(1 - pw)` (R456). -/
def waveTriangle (N : Num) (p pw : F32) : F32 :=
  if fLt p pw then N.add (fOfInt (-1)) (N.div (N.mul (fOfInt 2) p) pw)
  else N.sub (fOfInt 1) (N.div (N.mul (fOfInt 2) (N.sub p pw)) (N.sub (fOfInt 1) pw))

/-- `W(wf, p, pw, h)` (R466). -/
def wave (N : Num) (wf : Nat) (p pw h : F32) : F32 :=
  match wf with
  | 0 => waveSine N p
  | 1 => waveSquare p
  | 2 => wavePulse p pw
  | 3 => waveTriangle N p pw
  | _ => h

end Sys2Proof.Machine
end

