-- ==== Sys2Proof/Machine/Lfo.lean ====
section
/-! DEFINITION. The LFOs (41_adsr_lfo.md R420 to R424). -/

namespace Sys2Proof.Machine

/-- The update interval `SUB/FS` in seconds (41_adsr_lfo.md R405). -/
def tickDelta (s : State) : F32 := s.num.div (fOfNat s.cfg.sub) (fOfNat s.cfg.fs)

/-- `f_lfo = 0.1 * 200^(RATE/100)` (R421); `u` is the first address of the LFO. -/
def lfoFreq (s : State) (u : Nat) : F32 := s.num.mul (numRat s.num 1 10) (s.num.pow (fOfInt 200) (regPct s (u + 1)))

/-- `pw_lfo = 0.5 + 0.45 * (2*SYMMETRY/100 - 1)` (R422). -/
def lfoWidth (s : State) (u : Nat) : F32 :=
  numWidth s.num (s.num.sub (s.num.div (s.num.mul (fOfInt 2) (fOfInt (regInt s (u + 2)))) (fOfInt 100)) (fOfInt 1))

/-- `lfo_tick(k)` (R423). -/
def lfoTick (s : State) (u : Nat) (l : Lfo) : Lfo :=
  let wf := regNat s u
  let out := wave s.num wf l.phase (lfoWidth s u) l.hold
  let p := s.num.add l.phase (s.num.mul (lfoFreq s u) (tickDelta s))
  if fLe (fOfInt 1) p then
    let draw := whiteNext l.prng
    { out := out
      phase := s.num.sub p (fFloor p)
      hold := if wf = 4 then draw.1 else l.hold
      prng := if wf = 4 then draw.2 else l.prng }
  else { l with out := out, phase := p }

/-- All five LFOs, each from its own registers and state. -/
def lfoTickAll (s : State) : Five Lfo :=
  ⟨lfoTick s uLfo s.voice.lfo.e1, lfoTick s (uLfo + 0x10) s.voice.lfo.e2, lfoTick s (uLfo + 0x20) s.voice.lfo.e3,
   lfoTick s (uLfo + 0x30) s.voice.lfo.e4, lfoTick s (uLfo + 0x40) s.voice.lfo.e5⟩

end Sys2Proof.Machine
end

