-- ==== Sys2Proof/Machine/Envelope.lean ====
section
/-! DEFINITION. The ADSR envelopes (41_adsr_lfo.md R400 to R418). -/

namespace Sys2Proof.Machine

/-- The state codes (R400). -/
def adsrCode : AdsrState → Nat
  | .idle => 0
  | .attack => 1
  | .decay => 2
  | .sustain => 3
  | .release => 4
  | .forceRelease => 5
  | .offRelease => 6

/-- `max(tmin, tmax * (v/100)^2)` seconds (R401 to R403). -/
def adsrTime (s : State) (tmin : Ratio) (tmax : Int) (k : Nat) : F32 :=
  let p := regPct s k
  fMax (s.num.ofRatio tmin) (s.num.mul (fOfInt tmax) (s.num.mul p p))

/-- `a_step = delta / T_a` (R401, R406); `u` is the first address of the envelope. -/
def attackStep (s : State) (u : Nat) : F32 := s.num.div (tickDelta s) (adsrTime s ⟨5, 1000⟩ 5 u)

/-- The sustain fraction `SUSTAIN/100` (R404). -/
def sustainLevel (s : State) (u : Nat) : F32 := regPct s (u + 2)

/-- `d_step = (delta / T_d) * (1 - s)` (R402, R406). -/
def decayStep (s : State) (u : Nat) : F32 :=
  s.num.mul (s.num.div (tickDelta s) (adsrTime s ⟨2, 1000⟩ 5 (u + 1))) (s.num.sub (fOfInt 1) (sustainLevel s u))

/-- `r_step = delta / T_r` (R403, R406). -/
def releaseStep (s : State) (u : Nat) : F32 := s.num.div (tickDelta s) (adsrTime s ⟨80, 1000⟩ 10 (u + 3))

/-- Enter ForceRelease from the current level (R407, R408, R415). -/
def enterForceRelease (N : Num) (x : Adsr) : Adsr :=
  { x with state := .forceRelease, forceStep := N.mul x.level (N.ofRatio forceFraction) }

/-- `adsr_note_on(k)` (R407). -/
def adsrNoteOn (N : Num) (x : Adsr) : Adsr :=
  let y := { x with held := true, elapsed := 0 }
  match y.state with
  | .idle => { y with state := .attack }
  | .forceRelease => y
  | _ => enterForceRelease N y

/-- `adsr_note_off(k)` (R408). -/
def adsrNoteOff (N : Num) (x : Adsr) : Adsr :=
  let y := { x with held := false }
  match y.state with
  | .attack => enterForceRelease N y
  | .decay => { y with state := .offRelease }
  | .sustain => { y with state := .release }
  | _ => y

/-- The elapsed counter: one more control tick, saturating at 2^32 - 1 (R416). -/
def elapsedNext (e : BitVec 32) : BitVec 32 := if e = BitVec.allOnes 32 then e else e + 1

/-- A ramp down by `step` that ends in `level = 0` and state `fin` once the level is at most `ADSR_EPS` (R413 to R415). -/
def rampDown (N : Num) (step : F32) (fin : AdsrState) (x : Adsr) : Adsr :=
  let level := N.sub x.level step
  if fLe level (N.ofRatio adsrEps) then { x with level := 0, state := fin } else { x with level := level }

/-- `adsr_tick(k)`: the counter, then the rule of the state at the start of the tick (R409 to R416). -/
def adsrTick (s : State) (u : Nat) (x0 : Adsr) : Adsr :=
  let N := s.num
  let x := { x0 with elapsed := elapsedNext x0.elapsed }
  match x.state with
  | .idle => x
  | .attack =>
    let level := N.add x.level (attackStep s u)
    if fLe (fOfInt 1) level then { x with level := fOfInt 1, state := .decay } else { x with level := level }
  | .decay =>
    let level := N.sub x.level (decayStep s u)
    if fLe level (sustainLevel s u) then { x with level := sustainLevel s u, state := .sustain } else { x with level := level }
  | .sustain => { x with level := sustainLevel s u }
  | .release => rampDown N (releaseStep s u) .idle x
  | .offRelease => rampDown N (releaseStep s u) .idle x
  | .forceRelease => rampDown N x.forceStep (if x.held then .attack else .idle) x

/-- All five envelopes, each from its own registers and state. -/
def adsrTickAll (s : State) : Five Adsr :=
  ⟨adsrTick s uAdsr s.voice.adsr.e1, adsrTick s (uAdsr + 0x10) s.voice.adsr.e2, adsrTick s (uAdsr + 0x20) s.voice.adsr.e3,
   adsrTick s (uAdsr + 0x30) s.voice.adsr.e4, adsrTick s (uAdsr + 0x40) s.voice.adsr.e5⟩

/-- The same change to each envelope. -/
def adsrMapAll (f : Adsr → Adsr) (x : Five Adsr) : Five Adsr := ⟨f x.e1, f x.e2, f x.e3, f x.e4, f x.e5⟩

end Sys2Proof.Machine
end

