-- ==== Sys2Proof/Machine/Modulation.lean ====
section
/-! DEFINITION. Modulation routing, combination and the tick-latched values (40_voice.md R312 to R325). A slot is named by the
address of its LFO_SEL register (10_state.md R53). -/

namespace Sys2Proof.Machine

/-- The LFO index of a slot, `LFO_SEL` bits 2..0 (10_state.md R53). -/
def slotLfoIdx (s : State) (slot : Nat) : Nat := (regAt s slot).toNat % 8

/-- The delay code of a slot, `LFO_SEL` bits 6..4 (10_state.md R53). -/
def slotDelay (s : State) (slot : Nat) : Nat := (regAt s slot).toNat / 16 % 8

/-- The envelope selector of a slot (R315). -/
def slotEnvSel (s : State) (slot : Nat) : Nat := regNat s (slot + 2)

/-- The owning ADSR: the one ENV_SEL selects, or ADSR1 (R317). -/
def slotOwner (s : State) (slot : Nat) : Adsr :=
  fiveGet s.voice.adsr (if slotEnvSel s slot = 0 then 1 else slotEnvSel s slot)

/-- `lfo_present`: an index is selected and the delay has elapsed, in exact integers (R316). -/
def lfoPresent (s : State) (slot : Nat) : Bool :=
  slotLfoIdx s slot != 0
    && decide (500 * (slotDelay s slot * s.cfg.fs) ≤ 1000 * ((slotOwner s slot).elapsed.toNat * s.cfg.sub))

/-- `env_present` (R318). -/
def envPresent (s : State) (slot : Nat) : Bool := slotEnvSel s slot != 0

/-- The LFO value `l(slot)` (R316). -/
def lfoValue (s : State) (slot : Nat) : F32 := (fiveGet s.voice.lfo (slotLfoIdx s slot)).out

/-- The envelope value `e(slot)` (R318). -/
def envValue (s : State) (slot : Nat) : F32 := (fiveGet s.voice.adsr (slotEnvSel s slot)).level

/-- `raw(slot) = (lfo_present ? l*dl : 0) + (env_present ? e*de : 0)` (R319). -/
def rawMod (s : State) (slot : Nat) : F32 :=
  s.num.add (if lfoPresent s slot then s.num.mul (lfoValue s slot) (regPct s (slot + 1)) else fOfInt 0)
    (if envPresent s slot then s.num.mul (envValue s slot) (regPct s (slot + 3)) else fOfInt 0)

/-- `add(slot) = clamp(raw(slot), -1, 1)` (R319). -/
def addMod (s : State) (slot : Nat) : F32 := fClamp (rawMod s slot) (fOfInt (-1)) (fOfInt 1)

/-- `lfo_mod(slot) = lfo_present ? 1 - dl*(1 - l)/2 : 1` (R320). -/
def lfoMod (s : State) (slot : Nat) : F32 :=
  if lfoPresent s slot then
    s.num.sub (fOfInt 1) (s.num.div (s.num.mul (regPct s (slot + 1)) (s.num.sub (fOfInt 1) (lfoValue s slot))) (fOfInt 2))
  else fOfInt 1

/-- `env_mod(slot) = env_present ? 1 - de*(1 - e) : 1` (R320). -/
def envMod (s : State) (slot : Nat) : F32 :=
  if envPresent s slot then
    s.num.sub (fOfInt 1) (s.num.mul (regPct s (slot + 3)) (s.num.sub (fOfInt 1) (envValue s slot)))
  else fOfInt 1

/-- `amp(slot) = lfo_mod(slot) * env_mod(slot)` (R320). -/
def ampMod (s : State) (slot : Nat) : F32 := s.num.mul (lfoMod s slot) (envMod s slot)

/-- `pan(c) = clamp((PANc - 50)/50 + raw(PANc slot), -1, 1)` (R321); `k` is the address of PANc. -/
def panMod (s : State) (k slot : Nat) : F32 :=
  fClamp (s.num.add (s.num.div (fOfInt (regInt s k - 50)) (fOfInt 50)) (rawMod s slot)) (fOfInt (-1)) (fOfInt 1)

/-- `D(g, fm) = 2^(OCTAVE + SEMITONE/12 + fm/1.4) * (1 + CENTS/100)` (R322). -/
def detune (s : State) (u : Nat) (fm : F32) : F32 :=
  let N := s.num
  N.mul
    (N.exp2 (N.add (N.add (fOfInt (regInt s (u + rOctave))) (N.div (fOfInt (regInt s (u + rSemitone))) (fOfInt 12)))
      (N.div fm (numRat N 14 10))))
    (N.add (fOfInt 1) (regPct s (u + rCents)))

/-- `st.f_src[g]`, clamped to the oscillator range (R323). -/
def srcFreq (s : State) (u : Nat) : F32 :=
  fClamp (s.num.mul s.voice.voiceFreq (detune s u (addMod s (u + slotFreq)))) (oscMinF s) (oscMaxF s)

/-- `st.pw[g]` (R324): the PWM quirk drops modulation that is not positive. -/
def pulseWidth (s : State) (u : Nat) : F32 :=
  let N := s.num
  let base := regPct s (u + rPwm)
  let c := addMod s (u + slotPwm)
  let t := if s.cfg.quirkPwmGate && !fLt (fOfInt 0) c then base else N.add base c
  numWidth N (fClamp (N.sub (N.mul (fOfInt 2) t) (fOfInt 1)) (fOfInt (-1)) (fOfInt 1))

/-- `recompute_tick_latched()` (R325). -/
def latchedOf (s : State) : Latched where
  fOsc1 := srcFreq s uOsc1
  fOsc2 := srcFreq s uOsc2
  fMso := srcFreq s uMso
  fPad := srcFreq s uPad
  pwOsc1 := pulseWidth s uOsc1
  pwOsc2 := pulseWidth s uOsc2
  pwMso := pulseWidth s uMso
  ampOsc1 := ampMod s (uOsc1 + slotAmp)
  ampOsc2 := ampMod s (uOsc2 + slotAmp)
  ampNoise := ampMod s (uNoise + slotAmp)
  ampMso := ampMod s (uMso + slotAmp)
  ampPad := ampMod s (uPad + slotAmp)
  envOsc1 := envMod s (uOsc1 + slotAmp)
  envOsc2 := envMod s (uOsc2 + slotAmp)
  envNoise := envMod s (uNoise + slotAmp)
  envMso := envMod s (uMso + slotAmp)
  envPad := envMod s (uPad + slotAmp)
  ffm1 := addMod s (uFilt1 + slotFreq)
  ffm2 := addMod s (uFilt2 + slotFreq)
  pan1 := panMod s (uAmp + 1) (uAmp + slotFreq)
  pan2 := panMod s (uAmp + 3) (uAmp + slotPwm)

end Sys2Proof.Machine
end

