-- ==== Sys2Proof/Machine/Lifecycle.lean ====
section
/-! DEFINITION. The voice-inactivity detector (40_voice.md R332 to R335). -/

namespace Sys2Proof.Machine

/-- `X.SEND < SEND_SILENT` (R332); `k` is the address of the send register. -/
def sendQuiet (s : State) (k : Nat) : Bool := fLt (regPct s k) (s.num.ofRatio sendSilent)

/-- `quiet(X)` of a generator with envelope part `env` (R332). -/
def quiet (s : State) (u : Nat) (env : F32) : Bool :=
  !enabled s u || fLt env (s.num.ofRatio envSilent) || (sendQuiet s (u + rSend1) && sendQuiet s (u + rSend2))

/-- `gens_quiet` (R332). -/
def gensQuiet (s : State) : Bool :=
  quiet s uOsc1 s.voice.lat.envOsc1 && quiet s uOsc2 s.voice.lat.envOsc2 && quiet s uNoise s.voice.lat.envNoise
    && quiet s uMso s.voice.lat.envMso && quiet s uPad s.voice.lat.envPad

/-- `ks_quiet` (R333). -/
def ksQuiet (s : State) : Bool := !enabled s uKs || fLt s.voice.ks.energy (s.num.ofRatio ksEnergyFloor)

/-- The inactivity predicate (R334). -/
def inactive (s : State) : Bool := gensQuiet s && ksQuiet s && s.voice.waits

/-- The check ends the voice (R334): inactive and still active. -/
def ends (s : State) : Bool := inactive s && s.voice.active

/-- `inactivity_check()`: the flags of an ended voice (R334); `waits` stays. -/
def endVoice (s : State) : State := { s with voice := { s.voice with active := false, inUse := false } }

end Sys2Proof.Machine
end

