-- ==== Sys2Proof/Machine/Filter.lean ====
section
/-! DEFINITION. State-variable filters, distortion and amplifier (47_filter_dist_amp.md R650 to R683). -/

namespace Sys2Proof.Machine

/-- `fmax = FS / 6` (R650). -/
def filtMax (s : State) : F32 := s.num.div (fOfNat s.cfg.fs) (fOfInt 6)

/-- `fc_base = 20 * (fmax / 20)^(FREQ/100)` (R650); `u` is the first address of the filter. -/
def filtBase (s : State) (u : Nat) : F32 :=
  s.num.mul (fOfInt 20) (s.num.pow (s.num.div (filtMax s) (fOfInt 20)) (regPct s u))

/-- Keyboard tracking `kt = (voice_freq / 261.6256)^(KBD_TRACK/100)` (R651). -/
def filtTrack (s : State) (u : Nat) : F32 :=
  s.num.pow (s.num.div s.voice.voiceFreq (numRat s.num 2616256 10000)) (regPct s (u + 4))

/-- The cut-off `clamp(fc_base * kt * 2^(OCTAVE * ffm), 20, FS/6)` (R652, R653). -/
def filtCutoff (s : State) (u : Nat) (ffm : F32) : F32 :=
  fClamp (s.num.mul (s.num.mul (filtBase s u) (filtTrack s u)) (s.num.exp2 (s.num.mul (fOfInt (regInt s (u + 1))) ffm)))
    (fOfInt 20) (filtMax s)

/-- The damping `q = 1 / Q`, `Q = 0.707 + (Q/100) * (20 - 0.707)` (R654). -/
def filtDamp (s : State) (u : Nat) : F32 :=
  let N := s.num
  let low := numRat N 707 1000
  N.div (fOfInt 1) (N.add low (N.mul (regPct s (u + 2)) (N.sub (fOfInt 20) low)))

/-- The frequency coefficient `F = 2 * sin(pi * fc / FS)` (R655). -/
def filtCoeff (s : State) (u : Nat) (ffm : F32) : F32 :=
  let N := s.num
  N.mul (fOfInt 2) (N.sin (N.div (N.mul N.pi (filtCutoff s u ffm)) (fOfNat s.cfg.fs)))

/-- The tap of a band: 0 `lp`, 1 `hp`, 2 `bp`, 3 (ALL) the input unchanged (R657). -/
def bandTap (band : Nat) (x lp hp bp : F32) : F32 :=
  match band with
  | 0 => lp
  | 1 => hp
  | 2 => bp
  | _ => x

/-- `svf_step(c, x)` (R656): the tap and the new integrators. -/
def svfStep (s : State) (u : Nat) (ffm x : F32) (f : Filt) : F32 × Filt :=
  let N := s.num
  let F := filtCoeff s u ffm
  let lp := N.add f.lp (N.mul F f.bp)
  let hp := N.sub (N.sub x lp) (N.mul (filtDamp s u) f.bp)
  let bp := N.add f.bp (N.mul F hp)
  (bandTap (regNat s (u + 3)) x lp hp bp, ⟨lp, bp⟩)

/-- `filter_clear` (R658). -/
def filterClear : Filt := ⟨0, 0⟩

/-- `k = drive * range` (R670); `u` is the first address of the distortion unit. -/
def distDrive (s : State) (u : Nat) : F32 := s.num.mul (regPct s (u + 1)) (fOfInt (regInt s (u + 2)))

/-- `dist(c, y)` (R671, R672). -/
def dist (s : State) (u : Nat) (y : F32) : F32 :=
  let N := s.num
  let k := distDrive s u
  let yd := N.mul (numTwoOverPi N) (N.atan (N.mul y k))
  let yd' := if regInt s (u + 4) == 1 && fLt (fOfInt 4) k then N.div yd (fOfInt 4) else yd
  let blend := regPct s (u + 3)
  N.add (N.mul blend yd') (N.mul (N.sub (fOfInt 1) blend) y)

/-- The distortion when `DISTc.ENABLE == 1`, else the signal (40_voice.md R328). -/
def distStage (s : State) (u : Nat) (y : F32) : F32 := if enabled s u then dist s u y else y

/-- Channel 1: FILT1, then DIST1 (40_voice.md R328). -/
def channel1 (s : State) (x : F32) : F32 × State :=
  let r := svfStep s uFilt1 s.voice.lat.ffm1 x s.voice.filt1
  (distStage s uDist1 r.1, { s with voice := { s.voice with filt1 := r.2 } })

/-- Channel 2: FILT2, then DIST2 (40_voice.md R328). -/
def channel2 (s : State) (x : F32) : F32 × State :=
  let r := svfStep s uFilt2 s.voice.lat.ffm2 x s.voice.filt2
  (distStage s uDist2 r.1, { s with voice := { s.voice with filt2 := r.2 } })

/-- `amp_out(y1, y2)` (R682), with no clipping (R683). -/
def ampOut (s : State) (y1 y2 : F32) : F32 × F32 :=
  let N := s.num
  let g1 := regPct s uAmp
  let g2 := regPct s (uAmp + 2)
  let p1 := s.voice.lat.pan1
  let p2 := s.voice.lat.pan2
  (N.mul (N.add (N.mul (N.mul y1 g1) (N.sub (fOfInt 1) p1)) (N.mul (N.mul y2 g2) (N.sub (fOfInt 1) p2))) (numRat N 2 10),
   N.mul (N.add (N.mul (N.mul y1 g1) (N.add (fOfInt 1) p1)) (N.mul (N.mul y2 g2) (N.add (fOfInt 1) p2))) (numRat N 2 10))

end Sys2Proof.Machine
end

