-- ==== Sys2Proof/Machine/Karplus.lean ====
section
/-! DEFINITION. The Karplus-Strong string (44_karplus.md R530 to R544). -/

namespace Sys2Proof.Machine

/-- The loop length `N = clamp(floor(FS / voice_freq + 0.5), 2, KS_CAP)` (R531). -/
def ksLength (s : State) : Nat :=
  (intClamp (numFloor s.num (s.num.add (s.num.div (fOfNat s.cfg.fs) s.voice.voiceFreq) fHalf)) 2 ksCap).toNat

/-- The excitation `e_i` (R532): the value, the new PRNG state, and the noise draw `n_i` that code 2 carries to the next index.
`prev` is `n_{i-1}`. -/
def ksExcite (N : Num) (code len i : Nat) (prng : BitVec 32) (prev : F32) : F32 × BitVec 32 × F32 :=
  let phi := N.div (fOfNat i) (fOfNat len)
  let draw := whiteNext prng
  match code with
  | 0 => (draw.1, draw.2, prev)
  | 1 => (if fLe (fOfInt 0) draw.1 then fOfInt 1 else fOfInt (-1), draw.2, prev)
  | 2 => (N.mul fHalf (N.add draw.1 prev), draw.2, draw.1)
  | 3 => (N.sin (N.mul (N.mul (numTwoPi N) (N.div (fOfNat len) (fOfInt 4))) (N.mul phi phi)), prng, prev)
  | 4 => (N.mul (N.sin (N.mul (numTwoPi N) phi)) (N.exp (N.mul (fOfInt (-4)) phi)), prng, prev)
  | 5 => (N.sub (N.mul (fOfInt 2) phi) (fOfInt 1), prng, prev)
  | _ => (if fLt phi fHalf then fOfInt 1 else fOfInt (-1), prng, prev)

/-- Variation (R533): `(1 - var)*e + var*white` with one more draw when `var > 0`. -/
def ksVary (N : Num) (var e : F32) (prng : BitVec 32) : F32 × BitVec 32 :=
  if fLt (fOfInt 0) var then
    let draw := whiteNext prng
    (N.add (N.mul (N.sub (fOfInt 1) var) e) (N.mul var draw.1), draw.2)
  else (e, prng)

/-- The damped excitation `d_i, d_{i+1}, ...` for `fuel` indices (R532 to R534) and the PRNG state after it. `d` is `d_{i-1}`. -/
def ksLine (N : Num) (code len : Nat) (var pd : F32) : Nat → Nat → BitVec 32 → F32 → F32 → List F32 × BitVec 32
  | 0, _, prng, _, _ => ([], prng)
  | fuel + 1, i, prng, prev, d =>
    let x := ksExcite N code len i prng prev
    let v := ksVary N var x.1 x.2.1
    let d' := if i = 0 then v.1 else N.add (N.mul (N.sub (fOfInt 1) pd) v.1) (N.mul pd d)
    let rest := ksLine N code len var pd fuel (i + 1) v.2 x.2.2 d'
    (d' :: rest.1, rest.2)

/-- The excitation of a pluck (R532 to R534), from the registers: the line and the PRNG state after it. -/
def ksExcitation (s : State) : List F32 × BitVec 32 :=
  ksLine s.num (regNat s (uKs + 1)) (ksLength s) (regPct s (uKs + 2))
    (s.num.div (s.num.mul (numRat s.num 99 100) (fOfInt (regInt s (uKs + 4)))) (fOfInt 100)) (ksLength s) 0 s.voice.ks.prng
    (fOfInt 0) (fOfInt 0)

/-- `ks_pluck()` (R535). -/
def ksPluck (s : State) : Ks :=
  let N := s.num
  let len := ksLength s
  let line := ksExcitation s
  { buf := storeSetPrefix (fun _ => 0) s.voice.ks.buf line.1
    len := len
    pos := 0
    held := true
    energy := N.mul (N.div (fOfInt 1) (fOfNat len)) (numSum N (line.1.map fun d => N.mul d d))
    fPluck := N.div (fOfNat s.cfg.fs) (fOfNat len)
    prng := line.2 }

/-- `rho(v)` in direct mode: `1 - 0.05 * v/100` (R537). -/
def rhoDirect (N : Num) (v : Int) : F32 :=
  N.sub (fOfInt 1) (N.div (N.mul (numRat N 5 100) (fOfInt v)) (fOfInt 100))

/-- `rho(v)` in magic mode: `10^(-3 / (f_pluck * T60))` with `T60 = 10.0 * (1 - v/100) + 0.05` (R538). -/
def rhoMagic (N : Num) (fPluck : F32) (v : Int) : F32 :=
  let t60 := N.add (N.mul (fOfInt 10) (N.sub (fOfInt 1) (numPct N v))) (numRat N 5 100)
  N.exp10 (N.div (fOfInt (-3)) (N.mul fPluck t60))

/-- The loop gain in use (R537 to R539). -/
def ksRho (s : State) : F32 :=
  let v := regInt s (if s.voice.ks.held then uKs + 8 else uKs + 9)
  if regInt s (uKs + 5) = 0 then rhoDirect s.num v else rhoMagic s.num s.voice.ks.fPluck v

/-- The string damping `S = 0.5 * STRING_DAMP/100` (R536). -/
def ksDamp (s : State) : F32 := s.num.div (s.num.mul fHalf (fOfInt (regInt s (uKs + 3)))) (fOfInt 100)

/-- `ks_render()` (R540, R541): the output and the new string. -/
def ksRender (s : State) : F32 × Ks :=
  let N := s.num
  let k := s.voice.ks
  let y := storeGet (fun _ => 0) k.buf k.pos
  let n := storeGet (fun _ => 0) k.buf ((k.pos + 1) % k.len)
  let v := N.mul (ksRho s) (N.add (N.mul (N.sub (fOfInt 1) (ksDamp s)) y) (N.mul (ksDamp s) n))
  (y, { k with
    buf := storeSet (fun _ => 0) k.buf k.pos v
    pos := (k.pos + 1) % k.len
    energy := N.add k.energy (N.div (N.sub (N.mul y y) k.energy) (fOfInt 1024)) })

/-- The string's part of a render: unscaled (40_voice.md R326, R337). -/
def renderKs (s : State) : F32 × State :=
  if enabled s uKs then
    let r := ksRender s
    (r.1, { s with voice := { s.voice with ks := r.2 } })
  else (fOfInt 0, s)

end Sys2Proof.Machine
end

