-- ==== Sys2Proof/Machine/Mso.lean ====
section
/-! DEFINITION. The morphed-sine table and its reader (45_mso.md R570 to R581). -/

namespace Sys2Proof.Machine

/-- The effective breakpoints `p1..p6` (R573). -/
structure BreakPoints where
  p1 : Nat
  p2 : Nat
  p3 : Nat
  p4 : Nat
  p5 : Nat
  p6 : Nat
  deriving DecidableEq, Repr

/-- `floor(x * 2s)` brought into `[0, L-1]` (R573). -/
def qLow (N : Num) (L : Nat) (sym : F32) (x : Int) : Nat :=
  (intClamp (numFloor N (N.mul (fOfInt x) (N.mul (fOfInt 2) sym))) 0 ((L : Int) - 1)).toNat

/-- `floor(L - (L - x) * 2(1 - s))` brought into `[0, L-1]` (R573). -/
def qHigh (N : Num) (L : Nat) (sym : F32) (x : Int) : Nat :=
  (intClamp (numFloor N (N.sub (fOfNat L) (N.mul (fOfInt ((L : Int) - x)) (N.mul (fOfInt 2) (N.sub (fOfInt 1) sym))))) 0
    ((L : Int) - 1)).toNat

/-- The effective breakpoints of `(a, .., f, s)`, with the running maximum that repairs unordered ones (R573). -/
def breakPoints (N : Num) (L : Nat) (sym : F32) (a b c d e f : Int) : BreakPoints :=
  let p1 := qLow N L sym a
  let p2 := max (qLow N L sym b) p1
  let p3 := max (qLow N L sym c) p2
  let p4 := max (qHigh N L sym d) p3
  let p5 := max (qHigh N L sym e) p4
  let p6 := max (qHigh N L sym f) p5
  ⟨p1, p2, p3, p4, p5, p6⟩

/-- The lengths of the seven segments (R574). -/
def segmentLens (L : Nat) (p : BreakPoints) : List Nat :=
  [p.p1, p.p2 - p.p1, p.p3 - p.p2, p.p4 - p.p3, p.p5 - p.p4, p.p6 - p.p5, L - p.p6]

/-- `pi/2 * u` with `u = (i - start) / len` (R575). -/
def segmentAngle (N : Num) (i start len : Nat) : F32 :=
  N.mul (numHalfPi N) (N.div (fOfNat (i - start)) (fOfNat len))

/-- Element `i` of the table (R575). -/
def msoElem (N : Num) (L : Nat) (p : BreakPoints) (i : Nat) : F32 :=
  if i < p.p1 then N.sin (segmentAngle N i 0 p.p1)
  else if i < p.p2 then fOfInt 1
  else if i < p.p3 then N.cos (segmentAngle N i p.p2 (p.p3 - p.p2))
  else if i < p.p4 then fOfInt 0
  else if i < p.p5 then fNeg (N.sin (segmentAngle N i p.p4 (p.p5 - p.p4)))
  else if i < p.p6 then fOfInt (-1)
  else fNeg (N.cos (segmentAngle N i p.p6 (L - p.p6)))

/-- The breakpoints of the base table: the reset breakpoints with `s = 0.5` (R576). -/
def baseBreakPoints (N : Num) (L : Nat) : BreakPoints :=
  breakPoints N L fHalf (L / 4 : Nat) (L / 4 + 1 : Nat) (L / 2 : Nat) (L / 2 + 1 : Nat) (3 * L / 4 : Nat) (3 * L / 4 + 1 : Nat)

/-- Element `i` of `MSOBASE` (R576): what an unlisted element of an MSO table reads as (log 14). -/
def msoBaseElem (N : Num) (L : Nat) (i : Nat) : F32 := msoElem N L (baseBreakPoints N L) i

/-- The symmetry `s = 0.05 + 0.9 * SYMMETRY/100` (R572). -/
def msoSymmetry (N : Num) (v : RegVal) : F32 :=
  N.add (numRat N 5 100) (N.div (N.mul (numRat N 9 10) (fOfInt v.toInt)) (fOfInt 100))

/-- The effective breakpoints of a snapshot (R573). -/
def snapBreakPoints (N : Num) (L : Nat) (x : MsoSnap) : BreakPoints :=
  breakPoints N L (msoSymmetry N x.symmetry) x.a.toInt x.b.toInt x.c.toInt x.d.toInt x.e.toInt x.f.toInt

/-- The morphed table of a snapshot (R573 to R575). -/
def msoTable (N : Num) (L : Nat) (x : MsoSnap) : List F32 := (List.range L).map (msoElem N L (snapBreakPoints N L x))

/-- The PWM warp (R579): `p < pw ? 0.5*p/pw : 0.5 + 0.5*(p - pw)/(1 - pw)`. -/
def msoWarp (N : Num) (p pw : F32) : F32 :=
  if fLt p pw then N.div (N.mul fHalf p) pw
  else N.add fHalf (N.div (N.mul fHalf (N.sub p pw)) (N.sub (fOfInt 1) pw))

/-- The element index a reader position gives (R580): `floor(p' * L) mod L`. -/
def msoIndex (s : State) : Nat :=
  let N := s.num
  let L := s.cfg.msoLen
  (numFloor N (N.mul (msoWarp N (N.div s.voice.msoIdx (fOfNat L)) s.voice.lat.pwMso) (fOfNat L)) % (L : Int)).toNat

/-- The reader position after a sample (R580). -/
def msoAdvance (s : State) : F32 :=
  let N := s.num
  let L := fOfNat s.cfg.msoLen
  let x := N.add s.voice.msoIdx (N.div (N.mul L s.voice.lat.fMso) (fOfNat s.cfg.fs))
  if fLe L x then N.sub x L else x

/-- The MSO bank a select bit names (10_state.md R71). -/
def msoBank (p : Program) (sel : Bool) : List (Nat × F32) := if sel then p.msom1 else p.msom0

/-- The MSO reader's part of a render, from the bank `ms` (R580; 40_voice.md R326, R337). -/
def renderMso (ms : Bool) (s : State) : Option (F32 × State) :=
  if enabled s uMso then
    match tableRead (msoBaseElem s.num s.cfg.msoLen) (msoBank s.program ms) s.cfg.msoLen (msoIndex s) with
    | some x => some (s.num.mul x s.voice.lat.ampMso, { s with voice := { s.voice with msoIdx := msoAdvance s } })
    | none => none
  else some (fOfInt 0, s)

end Sys2Proof.Machine
end

