-- ==== Sys2Proof/Machine/NoiseGen.lean ====
section
/-! DEFINITION. The noise generator (43_noise.md R503 to R507). -/

namespace Sys2Proof.Machine

/-- The pink filter on the input `w` (R504): the output and the new filter state; `b6` is used before it is updated. DEDUCED (log 26):
R508 prints a bound of `b5` that R504 exceeds; R504 is followed. -/
def pinkNext (N : Num) (p : PinkCoeffs) (w : F32) (n : Noise) : F32 × Noise :=
  let pole := fun a c b => N.add (N.mul (N.ofRatio a) b) (N.mul w (N.ofRatio c))
  let b0 := pole p.a0 p.c0 n.b0
  let b1 := pole p.a1 p.c1 n.b1
  let b2 := pole p.a2 p.c2 n.b2
  let b3 := pole p.a3 p.c3 n.b3
  let b4 := pole p.a4 p.c4 n.b4
  let b5 := N.sub (N.mul (N.ofRatio p.a5) n.b5) (N.mul w (N.ofRatio p.c5))
  let total := N.add (N.add (N.add (N.add (N.add (N.add (N.add b0 b1) b2) b3) b4) b5) n.b6) (N.mul w (N.ofRatio p.d))
  (N.mul total (N.ofRatio p.gain),
   { n with b0 := b0, b1 := b1, b2 := b2, b3 := b3, b4 := b4, b5 := b5, b6 := N.mul w (N.ofRatio p.c6) })

/-- The leaky integrator on the input `w` (R505). -/
def brownNext (N : Num) (w : F32) (n : Noise) : F32 × Noise :=
  let b := N.div (N.add n.brown (N.mul (numRat N 2 100) w)) (numRat N 102 100)
  (N.mul (numRat N 35 10) b, { n with brown := b })

/-- `noise_render()` (R507): one draw in every colour; only the selected colour's filter moves. -/
def noiseRender (N : Num) (p : PinkCoeffs) (color : Nat) (n : Noise) : F32 × Noise :=
  let draw := whiteNext n.prng
  let n' := { n with prng := draw.2 }
  match color with
  | 0 => (draw.1, n')
  | 1 => pinkNext N p draw.1 n'
  | _ => brownNext N draw.1 n'

/-- The noise generator's part of a render (40_voice.md R326, R337). -/
def renderNoise (s : State) : F32 × State :=
  if enabled s uNoise then
    let r := noiseRender s.num s.cfg.pink (regNat s (uNoise + 1)) s.voice.noise
    (s.num.mul r.1 s.voice.lat.ampNoise, { s with voice := { s.voice with noise := r.2 } })
  else (fOfInt 0, s)

end Sys2Proof.Machine
end

