-- ==== Sys2Proof/Machine/Oscillator.lean ====
section
/-! DEFINITION. The oscillators with PWM, unison and hard sync (42_oscillator.md R450 to R466). -/

namespace Sys2Proof.Machine

/-- `2^(n/12)` (R458). -/
def semitoneRatio (N : Num) (n : Int) : F32 := N.exp2 (N.div (fOfInt n) (fOfInt 12))

/-- The unison ratios `r_0 .. r_8` of a mode (R458). -/
def unisonRatios (N : Num) (mode : Nat) : List F32 :=
  match mode with
  | 2 => [fOfInt 1, fOfInt 2, fOfInt 4, fOfInt 8, fOfInt 16, numRat N 1 2, numRat N 1 4, numRat N 1 8, numRat N 1 16]
  | 3 => [0, 4, 7, 11, 12, 16, 19, 23, 24].map (semitoneRatio N)
  | 4 => [0, 3, 7, 10, 12, 15, 19, 22, 24].map (semitoneRatio N)
  | 5 => [numRat N 1 2, numRat N 3 2, fOfInt 1, fOfInt 2, fOfInt 3, fOfInt 4, fOfInt 5, fOfInt 6, fOfInt 8]
  | _ => [fOfInt 1, fOfInt 1, fOfInt 1, fOfInt 1, fOfInt 1, fOfInt 1, fOfInt 1, fOfInt 1, fOfInt 1]

/-- The detune offsets `delta_0 .. delta_8` in quarters (R459). -/
def detuneQuarters : List Int := [0, 1, -1, 2, -2, 3, -3, 4, -4]

/-- The spread factor `sp_i = 2^(delta_i * (UNISON_DETUNE/100) / 12)`; 1 in mode 0 (R459). -/
def spread (s : State) (u : Nat) (mode : Nat) (quarters : Int) : F32 :=
  if mode = 0 then fOfInt 1
  else s.num.exp2 (s.num.div (s.num.mul (numRat s.num quarters 4) (regPct s (u + rUniDetune))) (fOfInt 12))

/-- The layer frequency `f_i = clamp(f_src * r_i * sp_i, MIN, MAX)` (R460). -/
def layerFreq (s : State) (u : Nat) (fsrc : F32) (i : Nat) : F32 :=
  let mode := regNat s (u + rUniMode)
  let r := (unisonRatios s.num mode).getD i (fOfInt 1)
  fClamp (s.num.mul (s.num.mul fsrc r) (spread s u mode (detuneQuarters.getD i 0))) (oscMinF s) (oscMaxF s)

/-- `inc_i = f_i / FS` (R452). -/
def layerInc (s : State) (u : Nat) (fsrc : F32) (i : Nat) : F32 := s.num.div (layerFreq s u fsrc i) (fOfNat s.cfg.fs)

/-- The stack mix (R461): layer 0 alone in mode 0, else the level-weighted mean of the nine layers. -/
def stackMix (s : State) (u : Nat) (w : Nine F32) : F32 :=
  let N := s.num
  if regNat s (u + rUniMode) = 0 then w.e0
  else
    let levels := (List.range 9).map fun i => regPct s (u + rUniLevel + i)
    let lam := numSum N levels
    if fLt (fOfInt 0) lam then N.div (numSum N (List.zipWith N.mul levels (nineList w))) lam else fOfInt 0

/-- Unison distortion `u = (1 - a)*s + a*(2/pi)*atan(s*(1 + 9*a))` (R462). -/
def unisonDist (N : Num) (a x : F32) : F32 :=
  N.add (N.mul (N.sub (fOfInt 1) a) x)
    (N.mul (N.mul a (numTwoOverPi N)) (N.atan (N.mul x (N.add (fOfInt 1) (N.mul (fOfInt 9) a)))))

/-- Phase advance of one layer (R464): the new layer, the new PRNG state, and whether the layer's cycle restarted. -/
def advanceLayer (N : Num) (sh : Bool) (inc : F32) (l : Layer) (prng : BitVec 32) : Layer × BitVec 32 × Bool :=
  let p := N.add l.phase inc
  if fLe (fOfInt 1) p then
    let draw := whiteNext prng
    (⟨N.sub p (fOfInt 1), if sh then draw.1 else l.hold⟩, if sh then draw.2 else prng, true)
  else (⟨p, l.hold⟩, prng, false)

/-- Phase advance of the running layers in rising order; layers 1 to 8 rest in mode 0 (R464, R458). -/
def advanceOsc (s : State) (u : Nat) (fsrc : F32) (o : Osc) : Osc :=
  let sh := regNat s (u + rWaveform) == 4
  let adv := fun i l x => advanceLayer s.num sh (layerInc s u fsrc i) l x
  let a0 := adv 0 o.layers.e0 o.prng
  if regNat s (u + rUniMode) = 0 then { layers := { o.layers with e0 := a0.1 }, prng := a0.2.1, wrapped := a0.2.2 }
  else
    let a1 := adv 1 o.layers.e1 a0.2.1
    let a2 := adv 2 o.layers.e2 a1.2.1
    let a3 := adv 3 o.layers.e3 a2.2.1
    let a4 := adv 4 o.layers.e4 a3.2.1
    let a5 := adv 5 o.layers.e5 a4.2.1
    let a6 := adv 6 o.layers.e6 a5.2.1
    let a7 := adv 7 o.layers.e7 a6.2.1
    let a8 := adv 8 o.layers.e8 a7.2.1
    { layers := ⟨a0.1, a1.1, a2.1, a3.1, a4.1, a5.1, a6.1, a7.1, a8.1⟩, prng := a8.2.1, wrapped := a0.2.2 }

/-- The waveform values of the nine layers (R461). -/
def layerWaves (s : State) (u : Nat) (pw : F32) (x : Nine Layer) : Nine F32 :=
  let w := fun (l : Layer) => wave s.num (regNat s (u + rWaveform)) l.phase pw l.hold
  ⟨w x.e0, w x.e1, w x.e2, w x.e3, w x.e4, w x.e5, w x.e6, w x.e7, w x.e8⟩

/-- `osc_render(k)` after hard sync: the output, then the phase advance (R465). -/
def oscRender (s : State) (u : Nat) (fsrc pw : F32) (o : Osc) : F32 × Osc :=
  (unisonDist s.num (regPct s (u + rUniDist)) (stackMix s u (layerWaves s u pw o.layers)), advanceOsc s u fsrc o)

/-- Hard sync of OSC2: every phase to 0.0 when OSC2.SYNC is 1 and OSC1's layer 0 restarted in this sample (R463). -/
def hardSync (s : State) : Osc :=
  if regInt s (uOsc2 + rSync) == 1 && s.voice.osc1.wrapped then
    { s.voice.osc2 with layers := nineMap (fun l => { l with phase := 0 }) s.voice.osc2.layers }
  else s.voice.osc2

/-- OSC1's part of a render: its sample times its amplitude factor (40_voice.md R326); a disabled oscillator only clears its
restart flag (R337). -/
def renderOsc1 (s : State) : F32 × State :=
  if enabled s uOsc1 then
    let r := oscRender s uOsc1 s.voice.lat.fOsc1 s.voice.lat.pwOsc1 s.voice.osc1
    (s.num.mul r.1 s.voice.lat.ampOsc1, { s with voice := { s.voice with osc1 := r.2 } })
  else (fOfInt 0, { s with voice := { s.voice with osc1 := { s.voice.osc1 with wrapped := false } } })

/-- OSC2's part of a render, after OSC1's (40_voice.md R326, R337; R463). -/
def renderOsc2 (s : State) : F32 × State :=
  if enabled s uOsc2 then
    let r := oscRender s uOsc2 s.voice.lat.fOsc2 s.voice.lat.pwOsc2 (hardSync s)
    (s.num.mul r.1 s.voice.lat.ampOsc2, { s with voice := { s.voice with osc2 := r.2 } })
  else (fOfInt 0, { s with voice := { s.voice with osc2 := { s.voice.osc2 with wrapped := false } } })

end Sys2Proof.Machine
end

