-- ==== Sys2Proof/Machine/Pad.lean ====
section
/-! DEFINITION. The PAD table and its reader (46_pad.md R600 to R616). -/

namespace Sys2Proof.Machine

/-- The table length `2^(15 + QUALITY)` (R600). -/
def padLen (x : PadSnap) : Nat := 2 ^ (15 + x.quality.toNat)

/-- The base frequency (R601). -/
def padF0 (N : Num) (x : PadSnap) : F32 := noteFreq N x.baseNote.toInt

/-- The harmonic levels `A_1 .. A_10` (R602) with their numbers. -/
def padHarmonics (N : Num) (x : PadSnap) : List (Nat × F32) :=
  [(1, x.harm1), (2, x.harm2), (3, x.harm3), (4, x.harm4), (5, x.harm5), (6, x.harm6), (7, x.harm7), (8, x.harm8),
   (9, x.harm9), (10, x.harm10)].map fun e => (e.1, numPct N e.2.toInt)

/-- `bwi(h) = (2^(bw/1200) - 1) * f0 * h / (2 * FS)` with `bw = 1 + 2*BANDWIDTH` cents (R605). -/
def padWidth (N : Num) (fs : Nat) (x : PadSnap) (h : Nat) : F32 :=
  let bw := fOfInt (1 + 2 * x.bandwidth.toInt)
  let bwHz := N.mul (N.mul (N.sub (N.exp2 (N.div bw (fOfInt 1200))) (fOfInt 1)) (padF0 N x)) (fOfNat h)
  N.div bwHz (N.mul (fOfInt 2) (fOfNat fs))

/-- `fi(h) = f0 * h * (1 + (DETUNE_SPREAD/100) * 0.01 * (h - 1)) / FS` (R606). -/
def padCentre (N : Num) (fs : Nat) (x : PadSnap) (h : Nat) : F32 :=
  let f := N.mul (N.mul (padF0 N x) (fOfNat h))
    (N.add (fOfInt 1) (N.mul (N.mul (numPct N x.detuneSpread.toInt) (numRat N 1 100)) (fOfInt ((h : Int) - 1))))
  N.div f (fOfNat fs)

/-- The profile of a harmonic (R604, R607). -/
def padProfile (N : Num) (shape : Nat) (halfCut : Bool) (x b : F32) : F32 :=
  if halfCut && fLt (fOfInt 0) x then fOfInt 0
  else
    match shape with
    | 0 => if fLe (fAbs x) b then N.div (fOfInt 1) b else fOfInt 0
    | 1 => N.div (N.exp (fNeg (N.mul (N.div x b) (N.div x b)))) b
    | _ => N.div (N.exp (fNeg (N.div (fAbs x) b))) b

/-- `amp[i] = sum_h A_h * prof(i/N - fi(h), bwi(h))` (R608). The centres and widths of the harmonics are given. -/
def padAmp (N : Num) (n shape : Nat) (halfCut : Bool) (hs : List (F32 × F32 × F32)) (i : Nat) : F32 :=
  numSum N (hs.map fun e =>
    N.mul e.1 (padProfile N shape halfCut (N.sub (N.div (fOfNat i) (fOfNat n)) e.2.1) e.2.2))

/-- Level, centre and width of each harmonic of a snapshot. -/
def padPartials (N : Num) (fs : Nat) (x : PadSnap) : List (F32 × F32 × F32) :=
  (padHarmonics N x).map fun e => (e.2, padCentre N fs x e.1, padWidth N fs x e.1)

/-- `phi = 2*pi * zext(x[31:8]) / 2^24` (R609). -/
def padPhase (N : Num) (x : BitVec 32) : F32 :=
  N.div (N.mul (numTwoPi N) (fOfNat (x.toNat / 256))) (fOfInt 16777216)

/-- The bins `i, i+1, ...` with amplitude and phase; a phase is drawn for every bin (R608, R609). -/
def padBins (N : Num) (amp : Nat → F32) : Nat → Nat → BitVec 32 → List (Nat × F32 × F32)
  | 0, _, _ => []
  | fuel + 1, i, x => (i, amp i, padPhase N (prngNext x)) :: padBins N amp fuel (i + 1) (prngNext x)

/-- The spectrum: bins 1 .. N/2 - 1, the builder's PRNG starting from 1 (R608, R609). -/
def padSpectrum (N : Num) (fs : Nat) (x : PadSnap) : List (Nat × F32 × F32) :=
  let hs := padPartials N fs x
  padBins N (padAmp N (padLen x) x.shape.toNat (x.halfCut == 1) hs) (padLen x / 2 - 1) 1 1

/-- `t[n] = sum_i amp[i] * cos(2*pi*i*n/N + phi[i])` (R610); the whole turns of `i*n/N` are dropped exactly (log 18). -/
def padSum (N : Num) (len : Nat) (bins : List (Nat × F32 × F32)) (n : Nat) : F32 :=
  numSum N (bins.map fun e =>
    N.mul e.2.1 (N.cos (N.add (N.div (N.mul (numTwoPi N) (fOfNat (e.1 * n % len))) (fOfNat len)) e.2.2)))

/-- The peak magnitude of a table (R610). -/
def padPeak (ts : List F32) : F32 := ts.foldl (fun m t => fMax m (fAbs t)) (fOfInt 0)

/-- The table of a snapshot, normalised to peak 1; all zero stays all zero (R610). -/
def padTable (N : Num) (fs : Nat) (x : PadSnap) : List F32 :=
  let ts := (List.range (padLen x)).map (padSum N (padLen x) (padSpectrum N fs x))
  let m := padPeak ts
  if fLt (fOfInt 0) m then ts.map fun t => N.div t m else ts

/-- The bank a build writes (R611). -/
def padBuild (N : Num) (fs : Nat) (x : PadSnap) : PadBank :=
  ⟨padLen x, padF0 N x, storeOfList (fun _ => 0) 0 (padTable N fs x)⟩

/-- The PAD bank a select bit names (10_state.md R71). -/
def padBank (p : Program) (sel : Bool) : PadBank := if sel then p.pad1 else p.pad0

/-- The reader position rescaled when the table length changed (R613). -/
def padRescale (N : Num) (v : Voice) (len : Nat) : F32 :=
  if len = v.padLenSeen then v.padPos else N.div (N.mul v.padPos (fOfNat len)) (fOfNat v.padLenSeen)

/-- The interpolated read of a position (R613). -/
def padTap (N : Num) (b : PadBank) (z : F32) : Option F32 :=
  let i0 := (numFloor N z % (b.len : Int)).toNat
  let fr := N.sub z (fFloor z)
  match tableRead (fun _ => 0) b.elems b.len i0, tableRead (fun _ => 0) b.elems b.len ((i0 + 1) % b.len) with
  | some x, some y => some (N.add (N.mul (N.sub (fOfInt 1) fr) x) (N.mul fr y))
  | _, _ => none

/-- The position of tap B: half a table on, modulo the length (R614). -/
def padHalfOn (N : Num) (len : Nat) (z : F32) : F32 :=
  let y := N.add z (fOfNat (len / 2))
  if fLe (fOfNat len) y then N.sub y (fOfNat len) else y

/-- The position after a sample (R615). -/
def padAdvance (N : Num) (b : PadBank) (f z : F32) : F32 :=
  let y := N.add z (N.div f b.f0)
  if fLe (fOfNat b.len) y then N.sub y (fOfNat b.len) else y

/-- The PAD reader's part of a render, from the bank `ps` (R615; 40_voice.md R326, R337). -/
def renderPad (ps : Bool) (s : State) : Option (F32 × F32 × State) :=
  let N := s.num
  if enabled s uPad then
    let b := padBank s.program ps
    let z := padRescale N s.voice b.len
    match padTap N b z, padTap N b (padHalfOn N b.len z) with
    | some x, some y =>
      some (N.mul x s.voice.lat.ampPad, N.mul y s.voice.lat.ampPad,
        { s with voice := { s.voice with padPos := padAdvance N b s.voice.lat.fPad z, padLenSeen := b.len } })
    | _, _ => none
  else some (fOfInt 0, fOfInt 0, s)

end Sys2Proof.Machine
end

