-- ==== Sys2Proof/Machine/Mixer.lean ====
section
/-! DEFINITION. One sample of an active voice: generators, buses, channels, amplifier (40_voice.md R308, R326 to R331). -/

namespace Sys2Proof.Machine

/-- The raw samples of the generators, each times its amplitude factor (R326). -/
structure Gens where
  osc1 : F32
  osc2 : F32
  noise : F32
  ks : F32
  mso : F32
  padA : F32
  padB : F32
  deriving DecidableEq, Repr

/-- `generate_all(ps, ms)` in its fixed order, the bank selects read once at the start (R326, 20_memory.md R209). -/
def generateAll (s : State) : Option (Gens × State) :=
  let o1 := renderOsc1 s
  let o2 := renderOsc2 o1.2
  let nz := renderNoise o2.2
  let ks := renderKs nz.2
  match renderMso s.program.msoSel ks.2 with
  | none => none
  | some m =>
    match renderPad s.program.padSel m.2 with
    | none => none
    | some p => some (⟨o1.1, o2.1, nz.1, ks.1, m.1, p.1, p.2.1⟩, p.2.2)

/-- The bus sum with the send registers at index `r` and PAD's tap `pad` (R327). -/
def busSum (s : State) (r : Nat) (g : Gens) (pad : F32) : F32 :=
  numSum s.num [s.num.mul (regPct s (uOsc1 + r)) g.osc1, s.num.mul (regPct s (uOsc2 + r)) g.osc2,
    s.num.mul (regPct s (uNoise + r)) g.noise, s.num.mul (regPct s (uKs + r)) g.ks, s.num.mul (regPct s (uMso + r)) g.mso,
    s.num.mul (regPct s (uPad + r)) pad]

/-- `rt_fault()`: RT_FAULT is raised and both filters are cleared (R331). -/
def rtFault (s : State) : State :=
  raiseStatus { s with voice := { s.voice with filt1 := filterClear, filt2 := filterClear } } .rtFault

/-- The channels and the amplifier on the generators' samples (R327 to R329): the pair and the state after the filters. -/
def mixOut (s : State) (g : Gens) : (F32 × F32) × State :=
  let x1 := busSum s rSend1 g g.padA
  let x2 := busSum s rSend2 g g.padB
  let c1 := channel1 s x1
  let c2 := channel2 c1.2 x2
  (ampOut c2.2 c1.1 c2.1, c2.2)

/-- The last check of a sample: a pair that is not finite becomes silence with `rt_fault` (R308, R331). -/
def finishSample (lr : F32 × F32) (s : State) : State :=
  if fFinite lr.1 && fFinite lr.2 then deliver s .ok 0 (some lr) none
  else deliver (rtFault s) .ok 0 (some (0, 0)) none

/-- A RENDER_SAMPLE of an active voice (R308). -/
def renderActive (s : State) : Host.Outcome State Fault Refusal :=
  match generateAll s with
  | none => .fault .tableIndex
  | some g =>
    let m := mixOut g.2 g.1
    .next (finishSample m.1 m.2)

end Sys2Proof.Machine
end

