-- ==== Sys2Proof/Machine/Builder.lean ====
section
/-! DEFINITION. The Table Builder: requests, snapshots, builds and bank swaps (45_mso.md R577, 46_pad.md R611, 60_exceptions.md
R716; log 7, log 8). -/

namespace Sys2Proof.Machine

/-- The PADB registers a build starts from (46_pad.md R611). -/
def padSnapOf (s : State) : PadSnap where
  baseNote := regAt s 0xE00
  harm1 := regAt s 0xE01
  harm2 := regAt s 0xE02
  harm3 := regAt s 0xE03
  harm4 := regAt s 0xE04
  harm5 := regAt s 0xE05
  harm6 := regAt s 0xE06
  harm7 := regAt s 0xE07
  harm8 := regAt s 0xE08
  harm9 := regAt s 0xE09
  harm10 := regAt s 0xE0A
  shape := regAt s 0xE0B
  halfCut := regAt s 0xE0C
  bandwidth := regAt s 0xE0D
  detuneSpread := regAt s 0xE0E
  quality := regAt s 0xE0F

/-- The MSOB registers a build starts from (45_mso.md R577). -/
def msoSnapOf (s : State) : MsoSnap where
  a := regAt s 0xF00
  b := regAt s 0xF01
  c := regAt s 0xF02
  d := regAt s 0xF03
  e := regAt s 0xF04
  f := regAt s 0xF05
  symmetry := regAt s 0xF06

/-- `pad_start()` (46_pad.md R611); the build's latency is a free value (log 7). -/
def padStart (s : State) : State :=
  { s with program := { s.program with
      padSnap := padSnapOf s, padBusy := true, padWait := Config.buildLatency s.program.builds, builds := s.program.builds + 1 } }

/-- `pad_build_request()` (46_pad.md R611). -/
def padRequest (s : State) : State :=
  if s.program.padBusy then { s with program := { s.program with padPending := true } } else padStart s

/-- `mso_start()` (45_mso.md R577); the build's latency is a free value (log 7). -/
def msoStart (s : State) : State :=
  { s with program := { s.program with
      msoSnap := msoSnapOf s, msoBusy := true, msoWait := Config.buildLatency s.program.builds, builds := s.program.builds + 1 } }

/-- `mso_build_request()` (45_mso.md R577). -/
def msoRequest (s : State) : State :=
  if s.program.msoBusy then { s with program := { s.program with msoPending := true } } else msoStart s

/-- The PAD build of the running snapshot written into the inactive bank, and the swap (46_pad.md R611, 20_memory.md R208). -/
def padSwapped (s : State) : Program :=
  let p := s.program
  let bank := padBuild s.num s.cfg.fs p.padSnap
  { p with
    pad0 := if p.padSel then bank else p.pad0
    pad1 := if p.padSel then p.pad1 else bank
    padSel := !p.padSel, padGen := p.padGen + 1, padBusy := false }

/-- The builder step that completes a PAD build; a pending request starts the next one (46_pad.md R611). -/
def padSwap (s : State) : State :=
  let s' := { s with program := padSwapped s }
  if s.program.padPending then padStart { s' with program := { s'.program with padPending := false } } else s'

/-- The MSO build of the running snapshot written into the inactive bank, and the swap (45_mso.md R577, 20_memory.md R208). -/
def msoSwapped (s : State) : Program :=
  let p := s.program
  let bank := storeOfList (msoBaseElem s.num s.cfg.msoLen) 0 (msoTable s.num s.cfg.msoLen p.msoSnap)
  { p with
    msom0 := if p.msoSel then bank else p.msom0
    msom1 := if p.msoSel then p.msom1 else bank
    msoSel := !p.msoSel, msoGen := p.msoGen + 1, msoBusy := false }

/-- The builder step that completes an MSO build; a pending request starts the next one (45_mso.md R577). -/
def msoSwap (s : State) : State :=
  let s' := { s with program := msoSwapped s }
  if s.program.msoPending then msoStart { s' with program := { s'.program with msoPending := false } } else s'

/-- A PAD build runs and its latency has passed. -/
def padDue (p : Program) : Bool := p.padBusy && p.padWait == 0

/-- An MSO build runs and its latency has passed. -/
def msoDue (p : Program) : Bool := p.msoBusy && p.msoWait == 0

/-- A voice step brings the running builds one step nearer their swap (60_exceptions.md R716; log 7). -/
def builderCountdown (p : Program) : Program :=
  { p with padWait := if p.padBusy then p.padWait - 1 else p.padWait, msoWait := if p.msoBusy then p.msoWait - 1 else p.msoWait }

/-- Put off a swap that is due until after the next voice step. -/
def builderDefer (p : Program) : Program :=
  { p with padWait := if padDue p then 1 else p.padWait, msoWait := if msoDue p then 1 else p.msoWait }

/-- `{pending, busy}` in bits 1, 0, as PADB.BUSY and MSOB.BUSY read it (45_mso.md R577, 46_pad.md R611). -/
def busyView (pending busy : Bool) : RegVal := (if pending then 2 else 0) ||| (if busy then 1 else 0)

end Sys2Proof.Machine
end

