-- ==== Sys2Proof/Machine/Params.lean ====
section
/-! DEFINITION. WRITE_PARAM and READ_PARAM (40_voice.md R302, R303, R314, R336), which every register row refines. -/

namespace Sys2Proof.Machine

/-- The read-only views (10_state.md R55, 40_voice.md R304, 45_mso.md R577, 46_pad.md R611) and STATUS (10_state.md R60); any other
register reads as stored (40_voice.md R303). -/
def readView (s : State) (a : PAddr) : RegVal :=
  match a.toNat with
  | 0x000 => s.voice.voiceId.setWidth 16
  | 0x001 => (if s.voice.waits then 4 else 0) ||| (if s.voice.active then 2 else 0) ||| (if s.voice.inUse then 1 else 0)
  | 0x002 => s.voice.status.setWidth 16
  | 0x003 => BitVec.ofInt 16 (min (numFloor s.num s.voice.voiceFreq) 32767)
  | 0xD08 => BitVec.ofNat 16 (adsrCode s.voice.adsr.e1.state)
  | 0xD18 => BitVec.ofNat 16 (adsrCode s.voice.adsr.e2.state)
  | 0xD28 => BitVec.ofNat 16 (adsrCode s.voice.adsr.e3.state)
  | 0xD38 => BitVec.ofNat 16 (adsrCode s.voice.adsr.e4.state)
  | 0xD48 => BitVec.ofNat 16 (adsrCode s.voice.adsr.e5.state)
  | 0xE10 => busyView s.program.padPending s.program.padBusy
  | 0xE11 => s.program.padGen
  | 0xF10 => busyView s.program.msoPending s.program.msoBusy
  | 0xF11 => s.program.msoGen
  | k => regAt s k

/-- READ_PARAM of address `a` on a core that is not halted (40_voice.md R303). -/
def readParam (s : State) (a : PAddr) : State :=
  match regInfo s.cfg.msoLen a with
  | none => rejectCommand s .badAddr
  | some _ => respond s .ok (readView s a)

/-- Store the clamped value of a write, at the address the quirk gives, and request an MSO build when the unit is MSOB
(40_voice.md R302, R336). -/
def storeParam (s : State) (a : PAddr) (v : Int) : State :=
  let s' := setReg s (quirkTarget s.cfg.quirkMsoSetters a).toNat (BitVec.ofInt 16 v)
  if unitOf a = 0xF then msoRequest s' else s'

/-- WRITE_PARAM of `v` to address `a` on a core that is not halted (40_voice.md R302). -/
def writeParam (s : State) (a : PAddr) (v : RegVal) : State :=
  match regInfo s.cfg.msoLen a with
  | none => rejectCommand s .badAddr
  | some r =>
    match r.access with
    | .ro => rejectCommand s .roWrite
    | .w1c => respond { s with voice := { s.voice with status := statusClear s.voice.status v } } .ok 0
    | .rw =>
      let w := domainClamp s.cfg.msoLen r.dom v
      respond (storeParam s a w) (if w = v.toInt then .ok else .okClamped) 0

/-- A WRITE_PARAM command (40_voice.md R300, R302). -/
def runWrite (a : PAddr) (v : RegVal) (s : State) : Host.Outcome State Fault Refusal :=
  unlessHalted s fun s => .next (writeParam s a v)

/-- A READ_PARAM command (40_voice.md R300, R303). -/
def runRead (a : PAddr) (s : State) : Host.Outcome State Fault Refusal := unlessHalted s fun s => .next (readParam s a)

end Sys2Proof.Machine
end

