-- ==== Sys2Proof/Machine/Commands.lean ====
section
/-! DEFINITION. The commands of the command port (40_voice.md R301 to R311) and the illegal opcodes (30_encoding.md R259). -/

namespace Sys2Proof.Machine

/-- NOP (R301). -/
def execNop (s : State) : Host.Outcome State Fault Refusal := unlessHalted s fun s => .next (respond s .ok 0)

/-- WRITE_PARAM (R302). -/
def execWriteParam (a : PAddr) (v : RegVal) (s : State) : Host.Outcome State Fault Refusal := runWrite a v s

/-- READ_PARAM (R303). -/
def execReadParam (a : PAddr) (s : State) : Host.Outcome State Fault Refusal := runRead a s

/-- SET_FREQUENCY on a core that is not halted (R304): the clamp is exact, the stored value is binary32 (log 6). -/
def setFrequency (s : State) (mhz : BitVec 28) : State :=
  let f := freqReq mhz
  let g := ratioClamp f s.cfg.oscMin s.cfg.oscMax
  respond { s with voice := { s.voice with voiceFreq := s.num.ofRatio g } } (if g = f then .ok else .okClamped) 0

/-- SET_FREQUENCY (R304). -/
def execSetFrequency (mhz : BitVec 28) (s : State) : Host.Outcome State Fault Refusal :=
  unlessHalted s fun s => .next (setFrequency s mhz)

/-- NOTE_ON on a core that is not halted (R305): the flags, every envelope, the pluck. -/
def noteOn (s : State) : State :=
  respond { s with voice := { s.voice with
    inUse := true, active := true, waits := false, adsr := adsrMapAll (adsrNoteOn s.num) s.voice.adsr, ks := ksPluck s } } .ok 0

/-- NOTE_ON (R305). -/
def execNoteOn (s : State) : Host.Outcome State Fault Refusal := unlessHalted s fun s => .next (noteOn s)

/-- NOTE_OFF on a core that is not halted (R306). -/
def noteOff (s : State) : State :=
  respond { s with voice := { s.voice with
    waits := s.voice.active || s.voice.waits, adsr := adsrMapAll (adsrNoteOff s.num) s.voice.adsr,
    ks := { s.voice.ks with held := false } } } .ok 0

/-- NOTE_OFF (R306). -/
def execNoteOff (s : State) : Host.Outcome State Fault Refusal := unlessHalted s fun s => .next (noteOff s)

/-- LFOs, then envelopes, then the tick-latched values (R307, R325). -/
def tickSources (s : State) : State :=
  let s1 := { s with voice := { s.voice with lfo := lfoTickAll s } }
  let s2 := { s1 with voice := { s1.voice with adsr := adsrTickAll s1 } }
  { s2 with voice := { s2.voice with lat := latchedOf s2 } }

/-- TICK_CONTROL on a core that is not halted (R307): the sources, then the inactivity check, whose result is DATA bit 0 and which
emits `voice_end(VOICE_ID)` (R334, 60_exceptions.md R710). -/
def tickControl (s : State) : State :=
  let t := tickSources s
  if ends t then deliver (endVoice t) .ok 1 none (some t.voice.voiceId) else respond t .ok 0

/-- TICK_CONTROL (R307). -/
def execTickControl (s : State) : Host.Outcome State Fault Refusal := unlessHalted s fun s => .next (tickControl s)

/-- RENDER_SAMPLE (R308): a halted core emits silence with ERR_CONFIG (R300), an inactive voice emits silence and changes no state
(R330), an active one renders. -/
def execRenderSample (s : State) : Host.Outcome State Fault Refusal :=
  if s.voice.halted then .next (deliver s .errConfig 0 (some (0, 0)) none)
  else if s.voice.active then renderActive s
  else .next (deliver s .ok 0 (some (0, 0)) none)

/-- CLEAR_FILTERS (R309). -/
def execClearFilters (s : State) : Host.Outcome State Fault Refusal :=
  unlessHalted s fun s => .next (respond { s with voice := { s.voice with filt1 := filterClear, filt2 := filterClear } } .ok 0)

/-- BUILD_PAD (R310): the request; the build runs in the Table Builder's steps. -/
def execBuildPad (s : State) : Host.Outcome State Fault Refusal :=
  unlessHalted s fun s => .next (respond (padRequest s) .ok 0)

/-- A word with opcode 0xA (30_encoding.md R259). -/
def execIllegalA (_x : BitVec 28) (s : State) : Host.Outcome State Fault Refusal := illegalWord s

/-- A word with opcode 0xB (30_encoding.md R259). -/
def execIllegalB (_x : BitVec 28) (s : State) : Host.Outcome State Fault Refusal := illegalWord s

/-- A word with opcode 0xC (30_encoding.md R259). -/
def execIllegalC (_x : BitVec 28) (s : State) : Host.Outcome State Fault Refusal := illegalWord s

/-- A word with opcode 0xD (30_encoding.md R259). -/
def execIllegalD (_x : BitVec 28) (s : State) : Host.Outcome State Fault Refusal := illegalWord s

/-- A word with opcode 0xE (30_encoding.md R259). -/
def execIllegalE (_x : BitVec 28) (s : State) : Host.Outcome State Fault Refusal := illegalWord s

/-- A word with opcode 0xF (30_encoding.md R259). -/
def execIllegalF (_x : BitVec 28) (s : State) : Host.Outcome State Fault Refusal := illegalWord s

end Sys2Proof.Machine
end

