-- ==== Sys2Proof/Machine/RowsAdsr.lean ====
section
/-! DEFINITION. The register rows of unit ADSR (10_state.md R54): WRITE_PARAM and READ_PARAM of one
address each (40_voice.md R302, R303). -/

namespace Sys2Proof.Machine

/-- WRITE ADSR1.ATTACK (R302, R401). -/
def execWriteAdsr1Attack (v : RegVal) (s : State) : Host.Outcome State Fault Refusal := runWrite 0xD00 v s

/-- READ ADSR1.ATTACK (R303, R401). -/
def execReadAdsr1Attack (s : State) : Host.Outcome State Fault Refusal := runRead 0xD00 s

/-- WRITE ADSR1.DECAY (R302, R402). -/
def execWriteAdsr1Decay (v : RegVal) (s : State) : Host.Outcome State Fault Refusal := runWrite 0xD01 v s

/-- READ ADSR1.DECAY (R303, R402). -/
def execReadAdsr1Decay (s : State) : Host.Outcome State Fault Refusal := runRead 0xD01 s

/-- WRITE ADSR1.SUSTAIN (R302, R404). -/
def execWriteAdsr1Sustain (v : RegVal) (s : State) : Host.Outcome State Fault Refusal := runWrite 0xD02 v s

/-- READ ADSR1.SUSTAIN (R303, R404). -/
def execReadAdsr1Sustain (s : State) : Host.Outcome State Fault Refusal := runRead 0xD02 s

/-- WRITE ADSR1.RELEASE (R302, R403). -/
def execWriteAdsr1Release (v : RegVal) (s : State) : Host.Outcome State Fault Refusal := runWrite 0xD03 v s

/-- READ ADSR1.RELEASE (R303, R403). -/
def execReadAdsr1Release (s : State) : Host.Outcome State Fault Refusal := runRead 0xD03 s

/-- WRITE ADSR1.SEND1 (R302, R417). -/
def execWriteAdsr1Send1 (v : RegVal) (s : State) : Host.Outcome State Fault Refusal := runWrite 0xD04 v s

/-- READ ADSR1.SEND1 (R303, R417). -/
def execReadAdsr1Send1 (s : State) : Host.Outcome State Fault Refusal := runRead 0xD04 s

/-- WRITE ADSR1.SEND2 (R302, R417). -/
def execWriteAdsr1Send2 (v : RegVal) (s : State) : Host.Outcome State Fault Refusal := runWrite 0xD05 v s

/-- READ ADSR1.SEND2 (R303, R417). -/
def execReadAdsr1Send2 (s : State) : Host.Outcome State Fault Refusal := runRead 0xD05 s

/-- READ ADSR1.STATE (R303, R400). -/
def execReadAdsr1State (s : State) : Host.Outcome State Fault Refusal := runRead 0xD08 s

/-- WRITE ADSR2.ATTACK (R302, R401). -/
def execWriteAdsr2Attack (v : RegVal) (s : State) : Host.Outcome State Fault Refusal := runWrite 0xD10 v s

/-- READ ADSR2.ATTACK (R303, R401). -/
def execReadAdsr2Attack (s : State) : Host.Outcome State Fault Refusal := runRead 0xD10 s

/-- WRITE ADSR2.DECAY (R302, R402). -/
def execWriteAdsr2Decay (v : RegVal) (s : State) : Host.Outcome State Fault Refusal := runWrite 0xD11 v s

/-- READ ADSR2.DECAY (R303, R402). -/
def execReadAdsr2Decay (s : State) : Host.Outcome State Fault Refusal := runRead 0xD11 s

/-- WRITE ADSR2.SUSTAIN (R302, R404). -/
def execWriteAdsr2Sustain (v : RegVal) (s : State) : Host.Outcome State Fault Refusal := runWrite 0xD12 v s

/-- READ ADSR2.SUSTAIN (R303, R404). -/
def execReadAdsr2Sustain (s : State) : Host.Outcome State Fault Refusal := runRead 0xD12 s

/-- WRITE ADSR2.RELEASE (R302, R403). -/
def execWriteAdsr2Release (v : RegVal) (s : State) : Host.Outcome State Fault Refusal := runWrite 0xD13 v s

/-- READ ADSR2.RELEASE (R303, R403). -/
def execReadAdsr2Release (s : State) : Host.Outcome State Fault Refusal := runRead 0xD13 s

/-- WRITE ADSR2.SEND1 (R302, R417). -/
def execWriteAdsr2Send1 (v : RegVal) (s : State) : Host.Outcome State Fault Refusal := runWrite 0xD14 v s

/-- READ ADSR2.SEND1 (R303, R417). -/
def execReadAdsr2Send1 (s : State) : Host.Outcome State Fault Refusal := runRead 0xD14 s

/-- WRITE ADSR2.SEND2 (R302, R417). -/
def execWriteAdsr2Send2 (v : RegVal) (s : State) : Host.Outcome State Fault Refusal := runWrite 0xD15 v s

/-- READ ADSR2.SEND2 (R303, R417). -/
def execReadAdsr2Send2 (s : State) : Host.Outcome State Fault Refusal := runRead 0xD15 s

/-- READ ADSR2.STATE (R303, R400). -/
def execReadAdsr2State (s : State) : Host.Outcome State Fault Refusal := runRead 0xD18 s

/-- WRITE ADSR3.ATTACK (R302, R401). -/
def execWriteAdsr3Attack (v : RegVal) (s : State) : Host.Outcome State Fault Refusal := runWrite 0xD20 v s

/-- READ ADSR3.ATTACK (R303, R401). -/
def execReadAdsr3Attack (s : State) : Host.Outcome State Fault Refusal := runRead 0xD20 s

/-- WRITE ADSR3.DECAY (R302, R402). -/
def execWriteAdsr3Decay (v : RegVal) (s : State) : Host.Outcome State Fault Refusal := runWrite 0xD21 v s

/-- READ ADSR3.DECAY (R303, R402). -/
def execReadAdsr3Decay (s : State) : Host.Outcome State Fault Refusal := runRead 0xD21 s

/-- WRITE ADSR3.SUSTAIN (R302, R404). -/
def execWriteAdsr3Sustain (v : RegVal) (s : State) : Host.Outcome State Fault Refusal := runWrite 0xD22 v s

/-- READ ADSR3.SUSTAIN (R303, R404). -/
def execReadAdsr3Sustain (s : State) : Host.Outcome State Fault Refusal := runRead 0xD22 s

/-- WRITE ADSR3.RELEASE (R302, R403). -/
def execWriteAdsr3Release (v : RegVal) (s : State) : Host.Outcome State Fault Refusal := runWrite 0xD23 v s

/-- READ ADSR3.RELEASE (R303, R403). -/
def execReadAdsr3Release (s : State) : Host.Outcome State Fault Refusal := runRead 0xD23 s

/-- WRITE ADSR3.SEND1 (R302, R417). -/
def execWriteAdsr3Send1 (v : RegVal) (s : State) : Host.Outcome State Fault Refusal := runWrite 0xD24 v s

/-- READ ADSR3.SEND1 (R303, R417). -/
def execReadAdsr3Send1 (s : State) : Host.Outcome State Fault Refusal := runRead 0xD24 s

/-- WRITE ADSR3.SEND2 (R302, R417). -/
def execWriteAdsr3Send2 (v : RegVal) (s : State) : Host.Outcome State Fault Refusal := runWrite 0xD25 v s

/-- READ ADSR3.SEND2 (R303, R417). -/
def execReadAdsr3Send2 (s : State) : Host.Outcome State Fault Refusal := runRead 0xD25 s

/-- READ ADSR3.STATE (R303, R400). -/
def execReadAdsr3State (s : State) : Host.Outcome State Fault Refusal := runRead 0xD28 s

/-- WRITE ADSR4.ATTACK (R302, R401). -/
def execWriteAdsr4Attack (v : RegVal) (s : State) : Host.Outcome State Fault Refusal := runWrite 0xD30 v s

/-- READ ADSR4.ATTACK (R303, R401). -/
def execReadAdsr4Attack (s : State) : Host.Outcome State Fault Refusal := runRead 0xD30 s

/-- WRITE ADSR4.DECAY (R302, R402). -/
def execWriteAdsr4Decay (v : RegVal) (s : State) : Host.Outcome State Fault Refusal := runWrite 0xD31 v s

/-- READ ADSR4.DECAY (R303, R402). -/
def execReadAdsr4Decay (s : State) : Host.Outcome State Fault Refusal := runRead 0xD31 s

/-- WRITE ADSR4.SUSTAIN (R302, R404). -/
def execWriteAdsr4Sustain (v : RegVal) (s : State) : Host.Outcome State Fault Refusal := runWrite 0xD32 v s

/-- READ ADSR4.SUSTAIN (R303, R404). -/
def execReadAdsr4Sustain (s : State) : Host.Outcome State Fault Refusal := runRead 0xD32 s

/-- WRITE ADSR4.RELEASE (R302, R403). -/
def execWriteAdsr4Release (v : RegVal) (s : State) : Host.Outcome State Fault Refusal := runWrite 0xD33 v s

/-- READ ADSR4.RELEASE (R303, R403). -/
def execReadAdsr4Release (s : State) : Host.Outcome State Fault Refusal := runRead 0xD33 s

/-- WRITE ADSR4.SEND1 (R302, R417). -/
def execWriteAdsr4Send1 (v : RegVal) (s : State) : Host.Outcome State Fault Refusal := runWrite 0xD34 v s

/-- READ ADSR4.SEND1 (R303, R417). -/
def execReadAdsr4Send1 (s : State) : Host.Outcome State Fault Refusal := runRead 0xD34 s

/-- WRITE ADSR4.SEND2 (R302, R417). -/
def execWriteAdsr4Send2 (v : RegVal) (s : State) : Host.Outcome State Fault Refusal := runWrite 0xD35 v s

/-- READ ADSR4.SEND2 (R303, R417). -/
def execReadAdsr4Send2 (s : State) : Host.Outcome State Fault Refusal := runRead 0xD35 s

/-- READ ADSR4.STATE (R303, R400). -/
def execReadAdsr4State (s : State) : Host.Outcome State Fault Refusal := runRead 0xD38 s

/-- WRITE ADSR5.ATTACK (R302, R401). -/
def execWriteAdsr5Attack (v : RegVal) (s : State) : Host.Outcome State Fault Refusal := runWrite 0xD40 v s

/-- READ ADSR5.ATTACK (R303, R401). -/
def execReadAdsr5Attack (s : State) : Host.Outcome State Fault Refusal := runRead 0xD40 s

/-- WRITE ADSR5.DECAY (R302, R402). -/
def execWriteAdsr5Decay (v : RegVal) (s : State) : Host.Outcome State Fault Refusal := runWrite 0xD41 v s

/-- READ ADSR5.DECAY (R303, R402). -/
def execReadAdsr5Decay (s : State) : Host.Outcome State Fault Refusal := runRead 0xD41 s

/-- WRITE ADSR5.SUSTAIN (R302, R404). -/
def execWriteAdsr5Sustain (v : RegVal) (s : State) : Host.Outcome State Fault Refusal := runWrite 0xD42 v s

/-- READ ADSR5.SUSTAIN (R303, R404). -/
def execReadAdsr5Sustain (s : State) : Host.Outcome State Fault Refusal := runRead 0xD42 s

/-- WRITE ADSR5.RELEASE (R302, R403). -/
def execWriteAdsr5Release (v : RegVal) (s : State) : Host.Outcome State Fault Refusal := runWrite 0xD43 v s

/-- READ ADSR5.RELEASE (R303, R403). -/
def execReadAdsr5Release (s : State) : Host.Outcome State Fault Refusal := runRead 0xD43 s

/-- WRITE ADSR5.SEND1 (R302, R417). -/
def execWriteAdsr5Send1 (v : RegVal) (s : State) : Host.Outcome State Fault Refusal := runWrite 0xD44 v s

/-- READ ADSR5.SEND1 (R303, R417). -/
def execReadAdsr5Send1 (s : State) : Host.Outcome State Fault Refusal := runRead 0xD44 s

/-- WRITE ADSR5.SEND2 (R302, R417). -/
def execWriteAdsr5Send2 (v : RegVal) (s : State) : Host.Outcome State Fault Refusal := runWrite 0xD45 v s

/-- READ ADSR5.SEND2 (R303, R417). -/
def execReadAdsr5Send2 (s : State) : Host.Outcome State Fault Refusal := runRead 0xD45 s

/-- READ ADSR5.STATE (R303, R400). -/
def execReadAdsr5State (s : State) : Host.Outcome State Fault Refusal := runRead 0xD48 s

end Sys2Proof.Machine
end

