-- ==== Sys2Proof/Machine/RowsDistAmp.lean ====
section
/-! DEFINITION. The register rows of units DIST1, DIST2, AMP (10_state.md R54): WRITE_PARAM and READ_PARAM of one
address each (40_voice.md R302, R303). -/

namespace Sys2Proof.Machine

/-- WRITE DIST1.ENABLE (R302, R313). -/
def execWriteDist1Enable (v : RegVal) (s : State) : Host.Outcome State Fault Refusal := runWrite 0x900 v s

/-- READ DIST1.ENABLE (R303, R313). -/
def execReadDist1Enable (s : State) : Host.Outcome State Fault Refusal := runRead 0x900 s

/-- WRITE DIST1.DRIVE (R302, R670). -/
def execWriteDist1Drive (v : RegVal) (s : State) : Host.Outcome State Fault Refusal := runWrite 0x901 v s

/-- READ DIST1.DRIVE (R303, R670). -/
def execReadDist1Drive (s : State) : Host.Outcome State Fault Refusal := runRead 0x901 s

/-- WRITE DIST1.RANGE (R302, R670). -/
def execWriteDist1Range (v : RegVal) (s : State) : Host.Outcome State Fault Refusal := runWrite 0x902 v s

/-- READ DIST1.RANGE (R303, R670). -/
def execReadDist1Range (s : State) : Host.Outcome State Fault Refusal := runRead 0x902 s

/-- WRITE DIST1.BLEND (R302, R670). -/
def execWriteDist1Blend (v : RegVal) (s : State) : Host.Outcome State Fault Refusal := runWrite 0x903 v s

/-- READ DIST1.BLEND (R303, R670). -/
def execReadDist1Blend (s : State) : Host.Outcome State Fault Refusal := runRead 0x903 s

/-- WRITE DIST1.AUTO_GAIN (R302, R672). -/
def execWriteDist1AutoGain (v : RegVal) (s : State) : Host.Outcome State Fault Refusal := runWrite 0x904 v s

/-- READ DIST1.AUTO_GAIN (R303, R672). -/
def execReadDist1AutoGain (s : State) : Host.Outcome State Fault Refusal := runRead 0x904 s

/-- WRITE DIST2.ENABLE (R302, R313). -/
def execWriteDist2Enable (v : RegVal) (s : State) : Host.Outcome State Fault Refusal := runWrite 0xA00 v s

/-- READ DIST2.ENABLE (R303, R313). -/
def execReadDist2Enable (s : State) : Host.Outcome State Fault Refusal := runRead 0xA00 s

/-- WRITE DIST2.DRIVE (R302, R670). -/
def execWriteDist2Drive (v : RegVal) (s : State) : Host.Outcome State Fault Refusal := runWrite 0xA01 v s

/-- READ DIST2.DRIVE (R303, R670). -/
def execReadDist2Drive (s : State) : Host.Outcome State Fault Refusal := runRead 0xA01 s

/-- WRITE DIST2.RANGE (R302, R670). -/
def execWriteDist2Range (v : RegVal) (s : State) : Host.Outcome State Fault Refusal := runWrite 0xA02 v s

/-- READ DIST2.RANGE (R303, R670). -/
def execReadDist2Range (s : State) : Host.Outcome State Fault Refusal := runRead 0xA02 s

/-- WRITE DIST2.BLEND (R302, R670). -/
def execWriteDist2Blend (v : RegVal) (s : State) : Host.Outcome State Fault Refusal := runWrite 0xA03 v s

/-- READ DIST2.BLEND (R303, R670). -/
def execReadDist2Blend (s : State) : Host.Outcome State Fault Refusal := runRead 0xA03 s

/-- WRITE DIST2.AUTO_GAIN (R302, R672). -/
def execWriteDist2AutoGain (v : RegVal) (s : State) : Host.Outcome State Fault Refusal := runWrite 0xA04 v s

/-- READ DIST2.AUTO_GAIN (R303, R672). -/
def execReadDist2AutoGain (s : State) : Host.Outcome State Fault Refusal := runRead 0xA04 s

/-- WRITE AMP.GAIN1 (R302, R680). -/
def execWriteAmpGain1 (v : RegVal) (s : State) : Host.Outcome State Fault Refusal := runWrite 0xB00 v s

/-- READ AMP.GAIN1 (R303, R680). -/
def execReadAmpGain1 (s : State) : Host.Outcome State Fault Refusal := runRead 0xB00 s

/-- WRITE AMP.PAN1 (R302, R681). -/
def execWriteAmpPan1 (v : RegVal) (s : State) : Host.Outcome State Fault Refusal := runWrite 0xB01 v s

/-- READ AMP.PAN1 (R303, R681). -/
def execReadAmpPan1 (s : State) : Host.Outcome State Fault Refusal := runRead 0xB01 s

/-- WRITE AMP.GAIN2 (R302, R680). -/
def execWriteAmpGain2 (v : RegVal) (s : State) : Host.Outcome State Fault Refusal := runWrite 0xB02 v s

/-- READ AMP.GAIN2 (R303, R680). -/
def execReadAmpGain2 (s : State) : Host.Outcome State Fault Refusal := runRead 0xB02 s

/-- WRITE AMP.PAN2 (R302, R681). -/
def execWriteAmpPan2 (v : RegVal) (s : State) : Host.Outcome State Fault Refusal := runWrite 0xB03 v s

/-- READ AMP.PAN2 (R303, R681). -/
def execReadAmpPan2 (s : State) : Host.Outcome State Fault Refusal := runRead 0xB03 s

/-- WRITE AMP.PAN1_LFO_SEL (R302, R314). -/
def execWriteAmpPan1LfoSel (v : RegVal) (s : State) : Host.Outcome State Fault Refusal := runWrite 0xB18 v s

/-- READ AMP.PAN1_LFO_SEL (R303, R314). -/
def execReadAmpPan1LfoSel (s : State) : Host.Outcome State Fault Refusal := runRead 0xB18 s

/-- WRITE AMP.PAN1_LFO_DEPTH (R302, R312). -/
def execWriteAmpPan1LfoDepth (v : RegVal) (s : State) : Host.Outcome State Fault Refusal := runWrite 0xB19 v s

/-- READ AMP.PAN1_LFO_DEPTH (R303, R312). -/
def execReadAmpPan1LfoDepth (s : State) : Host.Outcome State Fault Refusal := runRead 0xB19 s

/-- WRITE AMP.PAN1_ENV_SEL (R302, R315). -/
def execWriteAmpPan1EnvSel (v : RegVal) (s : State) : Host.Outcome State Fault Refusal := runWrite 0xB1A v s

/-- READ AMP.PAN1_ENV_SEL (R303, R315). -/
def execReadAmpPan1EnvSel (s : State) : Host.Outcome State Fault Refusal := runRead 0xB1A s

/-- WRITE AMP.PAN1_ENV_DEPTH (R302, R312). -/
def execWriteAmpPan1EnvDepth (v : RegVal) (s : State) : Host.Outcome State Fault Refusal := runWrite 0xB1B v s

/-- READ AMP.PAN1_ENV_DEPTH (R303, R312). -/
def execReadAmpPan1EnvDepth (s : State) : Host.Outcome State Fault Refusal := runRead 0xB1B s

/-- WRITE AMP.PAN2_LFO_SEL (R302, R314). -/
def execWriteAmpPan2LfoSel (v : RegVal) (s : State) : Host.Outcome State Fault Refusal := runWrite 0xB1C v s

/-- READ AMP.PAN2_LFO_SEL (R303, R314). -/
def execReadAmpPan2LfoSel (s : State) : Host.Outcome State Fault Refusal := runRead 0xB1C s

/-- WRITE AMP.PAN2_LFO_DEPTH (R302, R312). -/
def execWriteAmpPan2LfoDepth (v : RegVal) (s : State) : Host.Outcome State Fault Refusal := runWrite 0xB1D v s

/-- READ AMP.PAN2_LFO_DEPTH (R303, R312). -/
def execReadAmpPan2LfoDepth (s : State) : Host.Outcome State Fault Refusal := runRead 0xB1D s

/-- WRITE AMP.PAN2_ENV_SEL (R302, R315). -/
def execWriteAmpPan2EnvSel (v : RegVal) (s : State) : Host.Outcome State Fault Refusal := runWrite 0xB1E v s

/-- READ AMP.PAN2_ENV_SEL (R303, R315). -/
def execReadAmpPan2EnvSel (s : State) : Host.Outcome State Fault Refusal := runRead 0xB1E s

/-- WRITE AMP.PAN2_ENV_DEPTH (R302, R312). -/
def execWriteAmpPan2EnvDepth (v : RegVal) (s : State) : Host.Outcome State Fault Refusal := runWrite 0xB1F v s

/-- READ AMP.PAN2_ENV_DEPTH (R303, R312). -/
def execReadAmpPan2EnvDepth (s : State) : Host.Outcome State Fault Refusal := runRead 0xB1F s

end Sys2Proof.Machine
end

