-- ==== Sys2Proof/Machine/RowsFilt.lean ====
section
/-! DEFINITION. The register rows of units FILT1, FILT2 (10_state.md R54): WRITE_PARAM and READ_PARAM of one
address each (40_voice.md R302, R303). -/

namespace Sys2Proof.Machine

/-- WRITE FILT1.FREQ (R302, R650). -/
def execWriteFilt1Freq (v : RegVal) (s : State) : Host.Outcome State Fault Refusal := runWrite 0x700 v s

/-- READ FILT1.FREQ (R303, R650). -/
def execReadFilt1Freq (s : State) : Host.Outcome State Fault Refusal := runRead 0x700 s

/-- WRITE FILT1.OCTAVE (R302, R652). -/
def execWriteFilt1Octave (v : RegVal) (s : State) : Host.Outcome State Fault Refusal := runWrite 0x701 v s

/-- READ FILT1.OCTAVE (R303, R652). -/
def execReadFilt1Octave (s : State) : Host.Outcome State Fault Refusal := runRead 0x701 s

/-- WRITE FILT1.Q (R302, R654). -/
def execWriteFilt1Q (v : RegVal) (s : State) : Host.Outcome State Fault Refusal := runWrite 0x702 v s

/-- READ FILT1.Q (R303, R654). -/
def execReadFilt1Q (s : State) : Host.Outcome State Fault Refusal := runRead 0x702 s

/-- WRITE FILT1.BAND (R302, R657). -/
def execWriteFilt1Band (v : RegVal) (s : State) : Host.Outcome State Fault Refusal := runWrite 0x703 v s

/-- READ FILT1.BAND (R303, R657). -/
def execReadFilt1Band (s : State) : Host.Outcome State Fault Refusal := runRead 0x703 s

/-- WRITE FILT1.KBD_TRACK (R302, R651). -/
def execWriteFilt1KbdTrack (v : RegVal) (s : State) : Host.Outcome State Fault Refusal := runWrite 0x704 v s

/-- READ FILT1.KBD_TRACK (R303, R651). -/
def execReadFilt1KbdTrack (s : State) : Host.Outcome State Fault Refusal := runRead 0x704 s

/-- WRITE FILT1.FREQ_LFO_SEL (R302, R314). -/
def execWriteFilt1FreqLfoSel (v : RegVal) (s : State) : Host.Outcome State Fault Refusal := runWrite 0x718 v s

/-- READ FILT1.FREQ_LFO_SEL (R303, R314). -/
def execReadFilt1FreqLfoSel (s : State) : Host.Outcome State Fault Refusal := runRead 0x718 s

/-- WRITE FILT1.FREQ_LFO_DEPTH (R302, R312). -/
def execWriteFilt1FreqLfoDepth (v : RegVal) (s : State) : Host.Outcome State Fault Refusal := runWrite 0x719 v s

/-- READ FILT1.FREQ_LFO_DEPTH (R303, R312). -/
def execReadFilt1FreqLfoDepth (s : State) : Host.Outcome State Fault Refusal := runRead 0x719 s

/-- WRITE FILT1.FREQ_ENV_SEL (R302, R315). -/
def execWriteFilt1FreqEnvSel (v : RegVal) (s : State) : Host.Outcome State Fault Refusal := runWrite 0x71A v s

/-- READ FILT1.FREQ_ENV_SEL (R303, R315). -/
def execReadFilt1FreqEnvSel (s : State) : Host.Outcome State Fault Refusal := runRead 0x71A s

/-- WRITE FILT1.FREQ_ENV_DEPTH (R302, R312). -/
def execWriteFilt1FreqEnvDepth (v : RegVal) (s : State) : Host.Outcome State Fault Refusal := runWrite 0x71B v s

/-- READ FILT1.FREQ_ENV_DEPTH (R303, R312). -/
def execReadFilt1FreqEnvDepth (s : State) : Host.Outcome State Fault Refusal := runRead 0x71B s

/-- WRITE FILT2.FREQ (R302, R650). -/
def execWriteFilt2Freq (v : RegVal) (s : State) : Host.Outcome State Fault Refusal := runWrite 0x800 v s

/-- READ FILT2.FREQ (R303, R650). -/
def execReadFilt2Freq (s : State) : Host.Outcome State Fault Refusal := runRead 0x800 s

/-- WRITE FILT2.OCTAVE (R302, R652). -/
def execWriteFilt2Octave (v : RegVal) (s : State) : Host.Outcome State Fault Refusal := runWrite 0x801 v s

/-- READ FILT2.OCTAVE (R303, R652). -/
def execReadFilt2Octave (s : State) : Host.Outcome State Fault Refusal := runRead 0x801 s

/-- WRITE FILT2.Q (R302, R654). -/
def execWriteFilt2Q (v : RegVal) (s : State) : Host.Outcome State Fault Refusal := runWrite 0x802 v s

/-- READ FILT2.Q (R303, R654). -/
def execReadFilt2Q (s : State) : Host.Outcome State Fault Refusal := runRead 0x802 s

/-- WRITE FILT2.BAND (R302, R657). -/
def execWriteFilt2Band (v : RegVal) (s : State) : Host.Outcome State Fault Refusal := runWrite 0x803 v s

/-- READ FILT2.BAND (R303, R657). -/
def execReadFilt2Band (s : State) : Host.Outcome State Fault Refusal := runRead 0x803 s

/-- WRITE FILT2.KBD_TRACK (R302, R651). -/
def execWriteFilt2KbdTrack (v : RegVal) (s : State) : Host.Outcome State Fault Refusal := runWrite 0x804 v s

/-- READ FILT2.KBD_TRACK (R303, R651). -/
def execReadFilt2KbdTrack (s : State) : Host.Outcome State Fault Refusal := runRead 0x804 s

/-- WRITE FILT2.FREQ_LFO_SEL (R302, R314). -/
def execWriteFilt2FreqLfoSel (v : RegVal) (s : State) : Host.Outcome State Fault Refusal := runWrite 0x818 v s

/-- READ FILT2.FREQ_LFO_SEL (R303, R314). -/
def execReadFilt2FreqLfoSel (s : State) : Host.Outcome State Fault Refusal := runRead 0x818 s

/-- WRITE FILT2.FREQ_LFO_DEPTH (R302, R312). -/
def execWriteFilt2FreqLfoDepth (v : RegVal) (s : State) : Host.Outcome State Fault Refusal := runWrite 0x819 v s

/-- READ FILT2.FREQ_LFO_DEPTH (R303, R312). -/
def execReadFilt2FreqLfoDepth (s : State) : Host.Outcome State Fault Refusal := runRead 0x819 s

/-- WRITE FILT2.FREQ_ENV_SEL (R302, R315). -/
def execWriteFilt2FreqEnvSel (v : RegVal) (s : State) : Host.Outcome State Fault Refusal := runWrite 0x81A v s

/-- READ FILT2.FREQ_ENV_SEL (R303, R315). -/
def execReadFilt2FreqEnvSel (s : State) : Host.Outcome State Fault Refusal := runRead 0x81A s

/-- WRITE FILT2.FREQ_ENV_DEPTH (R302, R312). -/
def execWriteFilt2FreqEnvDepth (v : RegVal) (s : State) : Host.Outcome State Fault Refusal := runWrite 0x81B v s

/-- READ FILT2.FREQ_ENV_DEPTH (R303, R312). -/
def execReadFilt2FreqEnvDepth (s : State) : Host.Outcome State Fault Refusal := runRead 0x81B s

end Sys2Proof.Machine
end

