-- ==== Sys2Proof/Machine/RowsLfo.lean ====
section
/-! DEFINITION. The register rows of unit LFO (10_state.md R54): WRITE_PARAM and READ_PARAM of one
address each (40_voice.md R302, R303). -/

namespace Sys2Proof.Machine

/-- WRITE LFO1.WAVEFORM (R302, R420). -/
def execWriteLfo1Waveform (v : RegVal) (s : State) : Host.Outcome State Fault Refusal := runWrite 0xC00 v s

/-- READ LFO1.WAVEFORM (R303, R420). -/
def execReadLfo1Waveform (s : State) : Host.Outcome State Fault Refusal := runRead 0xC00 s

/-- WRITE LFO1.RATE (R302, R421). -/
def execWriteLfo1Rate (v : RegVal) (s : State) : Host.Outcome State Fault Refusal := runWrite 0xC01 v s

/-- READ LFO1.RATE (R303, R421). -/
def execReadLfo1Rate (s : State) : Host.Outcome State Fault Refusal := runRead 0xC01 s

/-- WRITE LFO1.SYMMETRY (R302, R422). -/
def execWriteLfo1Symmetry (v : RegVal) (s : State) : Host.Outcome State Fault Refusal := runWrite 0xC02 v s

/-- READ LFO1.SYMMETRY (R303, R422). -/
def execReadLfo1Symmetry (s : State) : Host.Outcome State Fault Refusal := runRead 0xC02 s

/-- WRITE LFO2.WAVEFORM (R302, R420). -/
def execWriteLfo2Waveform (v : RegVal) (s : State) : Host.Outcome State Fault Refusal := runWrite 0xC10 v s

/-- READ LFO2.WAVEFORM (R303, R420). -/
def execReadLfo2Waveform (s : State) : Host.Outcome State Fault Refusal := runRead 0xC10 s

/-- WRITE LFO2.RATE (R302, R421). -/
def execWriteLfo2Rate (v : RegVal) (s : State) : Host.Outcome State Fault Refusal := runWrite 0xC11 v s

/-- READ LFO2.RATE (R303, R421). -/
def execReadLfo2Rate (s : State) : Host.Outcome State Fault Refusal := runRead 0xC11 s

/-- WRITE LFO2.SYMMETRY (R302, R422). -/
def execWriteLfo2Symmetry (v : RegVal) (s : State) : Host.Outcome State Fault Refusal := runWrite 0xC12 v s

/-- READ LFO2.SYMMETRY (R303, R422). -/
def execReadLfo2Symmetry (s : State) : Host.Outcome State Fault Refusal := runRead 0xC12 s

/-- WRITE LFO3.WAVEFORM (R302, R420). -/
def execWriteLfo3Waveform (v : RegVal) (s : State) : Host.Outcome State Fault Refusal := runWrite 0xC20 v s

/-- READ LFO3.WAVEFORM (R303, R420). -/
def execReadLfo3Waveform (s : State) : Host.Outcome State Fault Refusal := runRead 0xC20 s

/-- WRITE LFO3.RATE (R302, R421). -/
def execWriteLfo3Rate (v : RegVal) (s : State) : Host.Outcome State Fault Refusal := runWrite 0xC21 v s

/-- READ LFO3.RATE (R303, R421). -/
def execReadLfo3Rate (s : State) : Host.Outcome State Fault Refusal := runRead 0xC21 s

/-- WRITE LFO3.SYMMETRY (R302, R422). -/
def execWriteLfo3Symmetry (v : RegVal) (s : State) : Host.Outcome State Fault Refusal := runWrite 0xC22 v s

/-- READ LFO3.SYMMETRY (R303, R422). -/
def execReadLfo3Symmetry (s : State) : Host.Outcome State Fault Refusal := runRead 0xC22 s

/-- WRITE LFO4.WAVEFORM (R302, R420). -/
def execWriteLfo4Waveform (v : RegVal) (s : State) : Host.Outcome State Fault Refusal := runWrite 0xC30 v s

/-- READ LFO4.WAVEFORM (R303, R420). -/
def execReadLfo4Waveform (s : State) : Host.Outcome State Fault Refusal := runRead 0xC30 s

/-- WRITE LFO4.RATE (R302, R421). -/
def execWriteLfo4Rate (v : RegVal) (s : State) : Host.Outcome State Fault Refusal := runWrite 0xC31 v s

/-- READ LFO4.RATE (R303, R421). -/
def execReadLfo4Rate (s : State) : Host.Outcome State Fault Refusal := runRead 0xC31 s

/-- WRITE LFO4.SYMMETRY (R302, R422). -/
def execWriteLfo4Symmetry (v : RegVal) (s : State) : Host.Outcome State Fault Refusal := runWrite 0xC32 v s

/-- READ LFO4.SYMMETRY (R303, R422). -/
def execReadLfo4Symmetry (s : State) : Host.Outcome State Fault Refusal := runRead 0xC32 s

/-- WRITE LFO5.WAVEFORM (R302, R420). -/
def execWriteLfo5Waveform (v : RegVal) (s : State) : Host.Outcome State Fault Refusal := runWrite 0xC40 v s

/-- READ LFO5.WAVEFORM (R303, R420). -/
def execReadLfo5Waveform (s : State) : Host.Outcome State Fault Refusal := runRead 0xC40 s

/-- WRITE LFO5.RATE (R302, R421). -/
def execWriteLfo5Rate (v : RegVal) (s : State) : Host.Outcome State Fault Refusal := runWrite 0xC41 v s

/-- READ LFO5.RATE (R303, R421). -/
def execReadLfo5Rate (s : State) : Host.Outcome State Fault Refusal := runRead 0xC41 s

/-- WRITE LFO5.SYMMETRY (R302, R422). -/
def execWriteLfo5Symmetry (v : RegVal) (s : State) : Host.Outcome State Fault Refusal := runWrite 0xC42 v s

/-- READ LFO5.SYMMETRY (R303, R422). -/
def execReadLfo5Symmetry (s : State) : Host.Outcome State Fault Refusal := runRead 0xC42 s

end Sys2Proof.Machine
end

