-- ==== Sys2Proof/Machine/RowsMsoPad.lean ====
section
/-! DEFINITION. The register rows of units MSO, PAD (10_state.md R54): WRITE_PARAM and READ_PARAM of one
address each (40_voice.md R302, R303). -/

namespace Sys2Proof.Machine

/-- WRITE MSO.ENABLE (R302, R313). -/
def execWriteMsoEnable (v : RegVal) (s : State) : Host.Outcome State Fault Refusal := runWrite 0x500 v s

/-- READ MSO.ENABLE (R303, R313). -/
def execReadMsoEnable (s : State) : Host.Outcome State Fault Refusal := runRead 0x500 s

/-- WRITE MSO.PWM_PERCENT (R302, R324). -/
def execWriteMsoPwmPercent (v : RegVal) (s : State) : Host.Outcome State Fault Refusal := runWrite 0x502 v s

/-- READ MSO.PWM_PERCENT (R303, R324). -/
def execReadMsoPwmPercent (s : State) : Host.Outcome State Fault Refusal := runRead 0x502 s

/-- WRITE MSO.OCTAVE (R302, R322). -/
def execWriteMsoOctave (v : RegVal) (s : State) : Host.Outcome State Fault Refusal := runWrite 0x503 v s

/-- READ MSO.OCTAVE (R303, R322). -/
def execReadMsoOctave (s : State) : Host.Outcome State Fault Refusal := runRead 0x503 s

/-- WRITE MSO.SEMITONE (R302, R322). -/
def execWriteMsoSemitone (v : RegVal) (s : State) : Host.Outcome State Fault Refusal := runWrite 0x504 v s

/-- READ MSO.SEMITONE (R303, R322). -/
def execReadMsoSemitone (s : State) : Host.Outcome State Fault Refusal := runRead 0x504 s

/-- WRITE MSO.CENTS (R302, R322). -/
def execWriteMsoCents (v : RegVal) (s : State) : Host.Outcome State Fault Refusal := runWrite 0x505 v s

/-- READ MSO.CENTS (R303, R322). -/
def execReadMsoCents (s : State) : Host.Outcome State Fault Refusal := runRead 0x505 s

/-- WRITE MSO.SEND_F1 (R302, R327). -/
def execWriteMsoSendF1 (v : RegVal) (s : State) : Host.Outcome State Fault Refusal := runWrite 0x506 v s

/-- READ MSO.SEND_F1 (R303, R327). -/
def execReadMsoSendF1 (s : State) : Host.Outcome State Fault Refusal := runRead 0x506 s

/-- WRITE MSO.SEND_F2 (R302, R327). -/
def execWriteMsoSendF2 (v : RegVal) (s : State) : Host.Outcome State Fault Refusal := runWrite 0x507 v s

/-- READ MSO.SEND_F2 (R303, R327). -/
def execReadMsoSendF2 (s : State) : Host.Outcome State Fault Refusal := runRead 0x507 s

/-- WRITE MSO.FREQ_LFO_SEL (R302, R314). -/
def execWriteMsoFreqLfoSel (v : RegVal) (s : State) : Host.Outcome State Fault Refusal := runWrite 0x518 v s

/-- READ MSO.FREQ_LFO_SEL (R303, R314). -/
def execReadMsoFreqLfoSel (s : State) : Host.Outcome State Fault Refusal := runRead 0x518 s

/-- WRITE MSO.FREQ_LFO_DEPTH (R302, R312). -/
def execWriteMsoFreqLfoDepth (v : RegVal) (s : State) : Host.Outcome State Fault Refusal := runWrite 0x519 v s

/-- READ MSO.FREQ_LFO_DEPTH (R303, R312). -/
def execReadMsoFreqLfoDepth (s : State) : Host.Outcome State Fault Refusal := runRead 0x519 s

/-- WRITE MSO.FREQ_ENV_SEL (R302, R315). -/
def execWriteMsoFreqEnvSel (v : RegVal) (s : State) : Host.Outcome State Fault Refusal := runWrite 0x51A v s

/-- READ MSO.FREQ_ENV_SEL (R303, R315). -/
def execReadMsoFreqEnvSel (s : State) : Host.Outcome State Fault Refusal := runRead 0x51A s

/-- WRITE MSO.FREQ_ENV_DEPTH (R302, R312). -/
def execWriteMsoFreqEnvDepth (v : RegVal) (s : State) : Host.Outcome State Fault Refusal := runWrite 0x51B v s

/-- READ MSO.FREQ_ENV_DEPTH (R303, R312). -/
def execReadMsoFreqEnvDepth (s : State) : Host.Outcome State Fault Refusal := runRead 0x51B s

/-- WRITE MSO.PWM_LFO_SEL (R302, R314). -/
def execWriteMsoPwmLfoSel (v : RegVal) (s : State) : Host.Outcome State Fault Refusal := runWrite 0x51C v s

/-- READ MSO.PWM_LFO_SEL (R303, R314). -/
def execReadMsoPwmLfoSel (s : State) : Host.Outcome State Fault Refusal := runRead 0x51C s

/-- WRITE MSO.PWM_LFO_DEPTH (R302, R312). -/
def execWriteMsoPwmLfoDepth (v : RegVal) (s : State) : Host.Outcome State Fault Refusal := runWrite 0x51D v s

/-- READ MSO.PWM_LFO_DEPTH (R303, R312). -/
def execReadMsoPwmLfoDepth (s : State) : Host.Outcome State Fault Refusal := runRead 0x51D s

/-- WRITE MSO.PWM_ENV_SEL (R302, R315). -/
def execWriteMsoPwmEnvSel (v : RegVal) (s : State) : Host.Outcome State Fault Refusal := runWrite 0x51E v s

/-- READ MSO.PWM_ENV_SEL (R303, R315). -/
def execReadMsoPwmEnvSel (s : State) : Host.Outcome State Fault Refusal := runRead 0x51E s

/-- WRITE MSO.PWM_ENV_DEPTH (R302, R312). -/
def execWriteMsoPwmEnvDepth (v : RegVal) (s : State) : Host.Outcome State Fault Refusal := runWrite 0x51F v s

/-- READ MSO.PWM_ENV_DEPTH (R303, R312). -/
def execReadMsoPwmEnvDepth (s : State) : Host.Outcome State Fault Refusal := runRead 0x51F s

/-- WRITE MSO.AMP_LFO_SEL (R302, R314). -/
def execWriteMsoAmpLfoSel (v : RegVal) (s : State) : Host.Outcome State Fault Refusal := runWrite 0x520 v s

/-- READ MSO.AMP_LFO_SEL (R303, R314). -/
def execReadMsoAmpLfoSel (s : State) : Host.Outcome State Fault Refusal := runRead 0x520 s

/-- WRITE MSO.AMP_LFO_DEPTH (R302, R312). -/
def execWriteMsoAmpLfoDepth (v : RegVal) (s : State) : Host.Outcome State Fault Refusal := runWrite 0x521 v s

/-- READ MSO.AMP_LFO_DEPTH (R303, R312). -/
def execReadMsoAmpLfoDepth (s : State) : Host.Outcome State Fault Refusal := runRead 0x521 s

/-- WRITE MSO.AMP_ENV_SEL (R302, R315). -/
def execWriteMsoAmpEnvSel (v : RegVal) (s : State) : Host.Outcome State Fault Refusal := runWrite 0x522 v s

/-- READ MSO.AMP_ENV_SEL (R303, R315). -/
def execReadMsoAmpEnvSel (s : State) : Host.Outcome State Fault Refusal := runRead 0x522 s

/-- WRITE MSO.AMP_ENV_DEPTH (R302, R312). -/
def execWriteMsoAmpEnvDepth (v : RegVal) (s : State) : Host.Outcome State Fault Refusal := runWrite 0x523 v s

/-- READ MSO.AMP_ENV_DEPTH (R303, R312). -/
def execReadMsoAmpEnvDepth (s : State) : Host.Outcome State Fault Refusal := runRead 0x523 s

/-- WRITE PAD.ENABLE (R302, R313). -/
def execWritePadEnable (v : RegVal) (s : State) : Host.Outcome State Fault Refusal := runWrite 0x600 v s

/-- READ PAD.ENABLE (R303, R313). -/
def execReadPadEnable (s : State) : Host.Outcome State Fault Refusal := runRead 0x600 s

/-- WRITE PAD.OCTAVE (R302, R322). -/
def execWritePadOctave (v : RegVal) (s : State) : Host.Outcome State Fault Refusal := runWrite 0x603 v s

/-- READ PAD.OCTAVE (R303, R322). -/
def execReadPadOctave (s : State) : Host.Outcome State Fault Refusal := runRead 0x603 s

/-- WRITE PAD.SEMITONE (R302, R322). -/
def execWritePadSemitone (v : RegVal) (s : State) : Host.Outcome State Fault Refusal := runWrite 0x604 v s

/-- READ PAD.SEMITONE (R303, R322). -/
def execReadPadSemitone (s : State) : Host.Outcome State Fault Refusal := runRead 0x604 s

/-- WRITE PAD.CENTS (R302, R322). -/
def execWritePadCents (v : RegVal) (s : State) : Host.Outcome State Fault Refusal := runWrite 0x605 v s

/-- READ PAD.CENTS (R303, R322). -/
def execReadPadCents (s : State) : Host.Outcome State Fault Refusal := runRead 0x605 s

/-- WRITE PAD.SEND_F1 (R302, R327). -/
def execWritePadSendF1 (v : RegVal) (s : State) : Host.Outcome State Fault Refusal := runWrite 0x606 v s

/-- READ PAD.SEND_F1 (R303, R327). -/
def execReadPadSendF1 (s : State) : Host.Outcome State Fault Refusal := runRead 0x606 s

/-- WRITE PAD.SEND_F2 (R302, R327). -/
def execWritePadSendF2 (v : RegVal) (s : State) : Host.Outcome State Fault Refusal := runWrite 0x607 v s

/-- READ PAD.SEND_F2 (R303, R327). -/
def execReadPadSendF2 (s : State) : Host.Outcome State Fault Refusal := runRead 0x607 s

/-- WRITE PAD.FREQ_LFO_SEL (R302, R314). -/
def execWritePadFreqLfoSel (v : RegVal) (s : State) : Host.Outcome State Fault Refusal := runWrite 0x618 v s

/-- READ PAD.FREQ_LFO_SEL (R303, R314). -/
def execReadPadFreqLfoSel (s : State) : Host.Outcome State Fault Refusal := runRead 0x618 s

/-- WRITE PAD.FREQ_LFO_DEPTH (R302, R312). -/
def execWritePadFreqLfoDepth (v : RegVal) (s : State) : Host.Outcome State Fault Refusal := runWrite 0x619 v s

/-- READ PAD.FREQ_LFO_DEPTH (R303, R312). -/
def execReadPadFreqLfoDepth (s : State) : Host.Outcome State Fault Refusal := runRead 0x619 s

/-- WRITE PAD.FREQ_ENV_SEL (R302, R315). -/
def execWritePadFreqEnvSel (v : RegVal) (s : State) : Host.Outcome State Fault Refusal := runWrite 0x61A v s

/-- READ PAD.FREQ_ENV_SEL (R303, R315). -/
def execReadPadFreqEnvSel (s : State) : Host.Outcome State Fault Refusal := runRead 0x61A s

/-- WRITE PAD.FREQ_ENV_DEPTH (R302, R312). -/
def execWritePadFreqEnvDepth (v : RegVal) (s : State) : Host.Outcome State Fault Refusal := runWrite 0x61B v s

/-- READ PAD.FREQ_ENV_DEPTH (R303, R312). -/
def execReadPadFreqEnvDepth (s : State) : Host.Outcome State Fault Refusal := runRead 0x61B s

/-- WRITE PAD.AMP_LFO_SEL (R302, R314). -/
def execWritePadAmpLfoSel (v : RegVal) (s : State) : Host.Outcome State Fault Refusal := runWrite 0x620 v s

/-- READ PAD.AMP_LFO_SEL (R303, R314). -/
def execReadPadAmpLfoSel (s : State) : Host.Outcome State Fault Refusal := runRead 0x620 s

/-- WRITE PAD.AMP_LFO_DEPTH (R302, R312). -/
def execWritePadAmpLfoDepth (v : RegVal) (s : State) : Host.Outcome State Fault Refusal := runWrite 0x621 v s

/-- READ PAD.AMP_LFO_DEPTH (R303, R312). -/
def execReadPadAmpLfoDepth (s : State) : Host.Outcome State Fault Refusal := runRead 0x621 s

/-- WRITE PAD.AMP_ENV_SEL (R302, R315). -/
def execWritePadAmpEnvSel (v : RegVal) (s : State) : Host.Outcome State Fault Refusal := runWrite 0x622 v s

/-- READ PAD.AMP_ENV_SEL (R303, R315). -/
def execReadPadAmpEnvSel (s : State) : Host.Outcome State Fault Refusal := runRead 0x622 s

/-- WRITE PAD.AMP_ENV_DEPTH (R302, R312). -/
def execWritePadAmpEnvDepth (v : RegVal) (s : State) : Host.Outcome State Fault Refusal := runWrite 0x623 v s

/-- READ PAD.AMP_ENV_DEPTH (R303, R312). -/
def execReadPadAmpEnvDepth (s : State) : Host.Outcome State Fault Refusal := runRead 0x623 s

end Sys2Proof.Machine
end

