-- ==== Sys2Proof/Machine/RowsMsob.lean ====
section
/-! DEFINITION. The register rows of unit MSOB (10_state.md R54): WRITE_PARAM and READ_PARAM of one
address each (40_voice.md R302, R303). -/

namespace Sys2Proof.Machine

/-- WRITE MSOB.BP_A (R302, R571). -/
def execWriteMsobBpA (v : RegVal) (s : State) : Host.Outcome State Fault Refusal := runWrite 0xF00 v s

/-- READ MSOB.BP_A (R303, R571). -/
def execReadMsobBpA (s : State) : Host.Outcome State Fault Refusal := runRead 0xF00 s

/-- WRITE MSOB.BP_B (R302, R571). -/
def execWriteMsobBpB (v : RegVal) (s : State) : Host.Outcome State Fault Refusal := runWrite 0xF01 v s

/-- READ MSOB.BP_B (R303, R571). -/
def execReadMsobBpB (s : State) : Host.Outcome State Fault Refusal := runRead 0xF01 s

/-- WRITE MSOB.BP_C (R302, R571). -/
def execWriteMsobBpC (v : RegVal) (s : State) : Host.Outcome State Fault Refusal := runWrite 0xF02 v s

/-- READ MSOB.BP_C (R303, R571). -/
def execReadMsobBpC (s : State) : Host.Outcome State Fault Refusal := runRead 0xF02 s

/-- WRITE MSOB.BP_D (R302, R571). -/
def execWriteMsobBpD (v : RegVal) (s : State) : Host.Outcome State Fault Refusal := runWrite 0xF03 v s

/-- READ MSOB.BP_D (R303, R571). -/
def execReadMsobBpD (s : State) : Host.Outcome State Fault Refusal := runRead 0xF03 s

/-- WRITE MSOB.BP_E (R302, R571). -/
def execWriteMsobBpE (v : RegVal) (s : State) : Host.Outcome State Fault Refusal := runWrite 0xF04 v s

/-- READ MSOB.BP_E (R303, R571). -/
def execReadMsobBpE (s : State) : Host.Outcome State Fault Refusal := runRead 0xF04 s

/-- WRITE MSOB.BP_F (R302, R571). -/
def execWriteMsobBpF (v : RegVal) (s : State) : Host.Outcome State Fault Refusal := runWrite 0xF05 v s

/-- READ MSOB.BP_F (R303, R571). -/
def execReadMsobBpF (s : State) : Host.Outcome State Fault Refusal := runRead 0xF05 s

/-- WRITE MSOB.SYMMETRY (R302, R572). -/
def execWriteMsobSymmetry (v : RegVal) (s : State) : Host.Outcome State Fault Refusal := runWrite 0xF06 v s

/-- READ MSOB.SYMMETRY (R303, R572). -/
def execReadMsobSymmetry (s : State) : Host.Outcome State Fault Refusal := runRead 0xF06 s

/-- READ MSOB.BUSY (R303, R577). -/
def execReadMsobBusy (s : State) : Host.Outcome State Fault Refusal := runRead 0xF10 s

/-- READ MSOB.GEN (R303, R577). -/
def execReadMsobGen (s : State) : Host.Outcome State Fault Refusal := runRead 0xF11 s

end Sys2Proof.Machine
end

