-- ==== Sys2Proof/Machine/RowsNoiseKs.lean ====
section
/-! DEFINITION. The register rows of units NOISE, KS (10_state.md R54): WRITE_PARAM and READ_PARAM of one
address each (40_voice.md R302, R303). -/

namespace Sys2Proof.Machine

/-- WRITE NOISE.ENABLE (R302, R313). -/
def execWriteNoiseEnable (v : RegVal) (s : State) : Host.Outcome State Fault Refusal := runWrite 0x300 v s

/-- READ NOISE.ENABLE (R303, R313). -/
def execReadNoiseEnable (s : State) : Host.Outcome State Fault Refusal := runRead 0x300 s

/-- WRITE NOISE.COLOR (R302, R506). -/
def execWriteNoiseColor (v : RegVal) (s : State) : Host.Outcome State Fault Refusal := runWrite 0x301 v s

/-- READ NOISE.COLOR (R303, R506). -/
def execReadNoiseColor (s : State) : Host.Outcome State Fault Refusal := runRead 0x301 s

/-- WRITE NOISE.SEND_F1 (R302, R327). -/
def execWriteNoiseSendF1 (v : RegVal) (s : State) : Host.Outcome State Fault Refusal := runWrite 0x306 v s

/-- READ NOISE.SEND_F1 (R303, R327). -/
def execReadNoiseSendF1 (s : State) : Host.Outcome State Fault Refusal := runRead 0x306 s

/-- WRITE NOISE.SEND_F2 (R302, R327). -/
def execWriteNoiseSendF2 (v : RegVal) (s : State) : Host.Outcome State Fault Refusal := runWrite 0x307 v s

/-- READ NOISE.SEND_F2 (R303, R327). -/
def execReadNoiseSendF2 (s : State) : Host.Outcome State Fault Refusal := runRead 0x307 s

/-- WRITE NOISE.AMP_LFO_SEL (R302, R314). -/
def execWriteNoiseAmpLfoSel (v : RegVal) (s : State) : Host.Outcome State Fault Refusal := runWrite 0x320 v s

/-- READ NOISE.AMP_LFO_SEL (R303, R314). -/
def execReadNoiseAmpLfoSel (s : State) : Host.Outcome State Fault Refusal := runRead 0x320 s

/-- WRITE NOISE.AMP_LFO_DEPTH (R302, R312). -/
def execWriteNoiseAmpLfoDepth (v : RegVal) (s : State) : Host.Outcome State Fault Refusal := runWrite 0x321 v s

/-- READ NOISE.AMP_LFO_DEPTH (R303, R312). -/
def execReadNoiseAmpLfoDepth (s : State) : Host.Outcome State Fault Refusal := runRead 0x321 s

/-- WRITE NOISE.AMP_ENV_SEL (R302, R315). -/
def execWriteNoiseAmpEnvSel (v : RegVal) (s : State) : Host.Outcome State Fault Refusal := runWrite 0x322 v s

/-- READ NOISE.AMP_ENV_SEL (R303, R315). -/
def execReadNoiseAmpEnvSel (s : State) : Host.Outcome State Fault Refusal := runRead 0x322 s

/-- WRITE NOISE.AMP_ENV_DEPTH (R302, R312). -/
def execWriteNoiseAmpEnvDepth (v : RegVal) (s : State) : Host.Outcome State Fault Refusal := runWrite 0x323 v s

/-- READ NOISE.AMP_ENV_DEPTH (R303, R312). -/
def execReadNoiseAmpEnvDepth (s : State) : Host.Outcome State Fault Refusal := runRead 0x323 s

/-- WRITE KS.ENABLE (R302, R313). -/
def execWriteKsEnable (v : RegVal) (s : State) : Host.Outcome State Fault Refusal := runWrite 0x400 v s

/-- READ KS.ENABLE (R303, R313). -/
def execReadKsEnable (s : State) : Host.Outcome State Fault Refusal := runRead 0x400 s

/-- WRITE KS.EXCITATION (R302, R532). -/
def execWriteKsExcitation (v : RegVal) (s : State) : Host.Outcome State Fault Refusal := runWrite 0x401 v s

/-- READ KS.EXCITATION (R303, R532). -/
def execReadKsExcitation (s : State) : Host.Outcome State Fault Refusal := runRead 0x401 s

/-- WRITE KS.VARIATION (R302, R533). -/
def execWriteKsVariation (v : RegVal) (s : State) : Host.Outcome State Fault Refusal := runWrite 0x402 v s

/-- READ KS.VARIATION (R303, R533). -/
def execReadKsVariation (s : State) : Host.Outcome State Fault Refusal := runRead 0x402 s

/-- WRITE KS.STRING_DAMP (R302, R536). -/
def execWriteKsStringDamp (v : RegVal) (s : State) : Host.Outcome State Fault Refusal := runWrite 0x403 v s

/-- READ KS.STRING_DAMP (R303, R536). -/
def execReadKsStringDamp (s : State) : Host.Outcome State Fault Refusal := runRead 0x403 s

/-- WRITE KS.PLUCK_DAMP (R302, R534). -/
def execWriteKsPluckDamp (v : RegVal) (s : State) : Host.Outcome State Fault Refusal := runWrite 0x404 v s

/-- READ KS.PLUCK_DAMP (R303, R534). -/
def execReadKsPluckDamp (s : State) : Host.Outcome State Fault Refusal := runRead 0x404 s

/-- WRITE KS.DAMP_MODE (R302, R537). -/
def execWriteKsDampMode (v : RegVal) (s : State) : Host.Outcome State Fault Refusal := runWrite 0x405 v s

/-- READ KS.DAMP_MODE (R303, R537). -/
def execReadKsDampMode (s : State) : Host.Outcome State Fault Refusal := runRead 0x405 s

/-- WRITE KS.SEND_F1 (R302, R327). -/
def execWriteKsSendF1 (v : RegVal) (s : State) : Host.Outcome State Fault Refusal := runWrite 0x406 v s

/-- READ KS.SEND_F1 (R303, R327). -/
def execReadKsSendF1 (s : State) : Host.Outcome State Fault Refusal := runRead 0x406 s

/-- WRITE KS.SEND_F2 (R302, R327). -/
def execWriteKsSendF2 (v : RegVal) (s : State) : Host.Outcome State Fault Refusal := runWrite 0x407 v s

/-- READ KS.SEND_F2 (R303, R327). -/
def execReadKsSendF2 (s : State) : Host.Outcome State Fault Refusal := runRead 0x407 s

/-- WRITE KS.ON_DECAY (R302, R539). -/
def execWriteKsOnDecay (v : RegVal) (s : State) : Host.Outcome State Fault Refusal := runWrite 0x408 v s

/-- READ KS.ON_DECAY (R303, R539). -/
def execReadKsOnDecay (s : State) : Host.Outcome State Fault Refusal := runRead 0x408 s

/-- WRITE KS.OFF_DECAY (R302, R539). -/
def execWriteKsOffDecay (v : RegVal) (s : State) : Host.Outcome State Fault Refusal := runWrite 0x409 v s

/-- READ KS.OFF_DECAY (R303, R539). -/
def execReadKsOffDecay (s : State) : Host.Outcome State Fault Refusal := runRead 0x409 s

end Sys2Proof.Machine
end

