-- ==== Sys2Proof/Machine/RowsOsc1.lean ====
section
/-! DEFINITION. The register rows of unit OSC1 (10_state.md R54): WRITE_PARAM and READ_PARAM of one
address each (40_voice.md R302, R303). -/

namespace Sys2Proof.Machine

/-- WRITE OSC1.ENABLE (R302, R313). -/
def execWriteOsc1Enable (v : RegVal) (s : State) : Host.Outcome State Fault Refusal := runWrite 0x100 v s

/-- READ OSC1.ENABLE (R303, R313). -/
def execReadOsc1Enable (s : State) : Host.Outcome State Fault Refusal := runRead 0x100 s

/-- WRITE OSC1.WAVEFORM (R302, R451). -/
def execWriteOsc1Waveform (v : RegVal) (s : State) : Host.Outcome State Fault Refusal := runWrite 0x101 v s

/-- READ OSC1.WAVEFORM (R303, R451). -/
def execReadOsc1Waveform (s : State) : Host.Outcome State Fault Refusal := runRead 0x101 s

/-- WRITE OSC1.PWM_PERCENT (R302, R324). -/
def execWriteOsc1PwmPercent (v : RegVal) (s : State) : Host.Outcome State Fault Refusal := runWrite 0x102 v s

/-- READ OSC1.PWM_PERCENT (R303, R324). -/
def execReadOsc1PwmPercent (s : State) : Host.Outcome State Fault Refusal := runRead 0x102 s

/-- WRITE OSC1.OCTAVE (R302, R322). -/
def execWriteOsc1Octave (v : RegVal) (s : State) : Host.Outcome State Fault Refusal := runWrite 0x103 v s

/-- READ OSC1.OCTAVE (R303, R322). -/
def execReadOsc1Octave (s : State) : Host.Outcome State Fault Refusal := runRead 0x103 s

/-- WRITE OSC1.SEMITONE (R302, R322). -/
def execWriteOsc1Semitone (v : RegVal) (s : State) : Host.Outcome State Fault Refusal := runWrite 0x104 v s

/-- READ OSC1.SEMITONE (R303, R322). -/
def execReadOsc1Semitone (s : State) : Host.Outcome State Fault Refusal := runRead 0x104 s

/-- WRITE OSC1.CENTS (R302, R322). -/
def execWriteOsc1Cents (v : RegVal) (s : State) : Host.Outcome State Fault Refusal := runWrite 0x105 v s

/-- READ OSC1.CENTS (R303, R322). -/
def execReadOsc1Cents (s : State) : Host.Outcome State Fault Refusal := runRead 0x105 s

/-- WRITE OSC1.SEND_F1 (R302, R327). -/
def execWriteOsc1SendF1 (v : RegVal) (s : State) : Host.Outcome State Fault Refusal := runWrite 0x106 v s

/-- READ OSC1.SEND_F1 (R303, R327). -/
def execReadOsc1SendF1 (s : State) : Host.Outcome State Fault Refusal := runRead 0x106 s

/-- WRITE OSC1.SEND_F2 (R302, R327). -/
def execWriteOsc1SendF2 (v : RegVal) (s : State) : Host.Outcome State Fault Refusal := runWrite 0x107 v s

/-- READ OSC1.SEND_F2 (R303, R327). -/
def execReadOsc1SendF2 (s : State) : Host.Outcome State Fault Refusal := runRead 0x107 s

/-- WRITE OSC1.SYNC (R302, R463). -/
def execWriteOsc1Sync (v : RegVal) (s : State) : Host.Outcome State Fault Refusal := runWrite 0x108 v s

/-- READ OSC1.SYNC (R303, R463). -/
def execReadOsc1Sync (s : State) : Host.Outcome State Fault Refusal := runRead 0x108 s

/-- WRITE OSC1.UNISON_MODE (R302, R458). -/
def execWriteOsc1UnisonMode (v : RegVal) (s : State) : Host.Outcome State Fault Refusal := runWrite 0x109 v s

/-- READ OSC1.UNISON_MODE (R303, R458). -/
def execReadOsc1UnisonMode (s : State) : Host.Outcome State Fault Refusal := runRead 0x109 s

/-- WRITE OSC1.UNISON_DETUNE (R302, R459). -/
def execWriteOsc1UnisonDetune (v : RegVal) (s : State) : Host.Outcome State Fault Refusal := runWrite 0x10A v s

/-- READ OSC1.UNISON_DETUNE (R303, R459). -/
def execReadOsc1UnisonDetune (s : State) : Host.Outcome State Fault Refusal := runRead 0x10A s

/-- WRITE OSC1.UNISON_DIST (R302, R462). -/
def execWriteOsc1UnisonDist (v : RegVal) (s : State) : Host.Outcome State Fault Refusal := runWrite 0x10B v s

/-- READ OSC1.UNISON_DIST (R303, R462). -/
def execReadOsc1UnisonDist (s : State) : Host.Outcome State Fault Refusal := runRead 0x10B s

/-- WRITE OSC1.UNISON_LEVEL0 (R302, R461). -/
def execWriteOsc1UnisonLevel0 (v : RegVal) (s : State) : Host.Outcome State Fault Refusal := runWrite 0x10C v s

/-- READ OSC1.UNISON_LEVEL0 (R303, R461). -/
def execReadOsc1UnisonLevel0 (s : State) : Host.Outcome State Fault Refusal := runRead 0x10C s

/-- WRITE OSC1.UNISON_LEVEL1 (R302, R461). -/
def execWriteOsc1UnisonLevel1 (v : RegVal) (s : State) : Host.Outcome State Fault Refusal := runWrite 0x10D v s

/-- READ OSC1.UNISON_LEVEL1 (R303, R461). -/
def execReadOsc1UnisonLevel1 (s : State) : Host.Outcome State Fault Refusal := runRead 0x10D s

/-- WRITE OSC1.UNISON_LEVEL2 (R302, R461). -/
def execWriteOsc1UnisonLevel2 (v : RegVal) (s : State) : Host.Outcome State Fault Refusal := runWrite 0x10E v s

/-- READ OSC1.UNISON_LEVEL2 (R303, R461). -/
def execReadOsc1UnisonLevel2 (s : State) : Host.Outcome State Fault Refusal := runRead 0x10E s

/-- WRITE OSC1.UNISON_LEVEL3 (R302, R461). -/
def execWriteOsc1UnisonLevel3 (v : RegVal) (s : State) : Host.Outcome State Fault Refusal := runWrite 0x10F v s

/-- READ OSC1.UNISON_LEVEL3 (R303, R461). -/
def execReadOsc1UnisonLevel3 (s : State) : Host.Outcome State Fault Refusal := runRead 0x10F s

/-- WRITE OSC1.UNISON_LEVEL4 (R302, R461). -/
def execWriteOsc1UnisonLevel4 (v : RegVal) (s : State) : Host.Outcome State Fault Refusal := runWrite 0x110 v s

/-- READ OSC1.UNISON_LEVEL4 (R303, R461). -/
def execReadOsc1UnisonLevel4 (s : State) : Host.Outcome State Fault Refusal := runRead 0x110 s

/-- WRITE OSC1.UNISON_LEVEL5 (R302, R461). -/
def execWriteOsc1UnisonLevel5 (v : RegVal) (s : State) : Host.Outcome State Fault Refusal := runWrite 0x111 v s

/-- READ OSC1.UNISON_LEVEL5 (R303, R461). -/
def execReadOsc1UnisonLevel5 (s : State) : Host.Outcome State Fault Refusal := runRead 0x111 s

/-- WRITE OSC1.UNISON_LEVEL6 (R302, R461). -/
def execWriteOsc1UnisonLevel6 (v : RegVal) (s : State) : Host.Outcome State Fault Refusal := runWrite 0x112 v s

/-- READ OSC1.UNISON_LEVEL6 (R303, R461). -/
def execReadOsc1UnisonLevel6 (s : State) : Host.Outcome State Fault Refusal := runRead 0x112 s

/-- WRITE OSC1.UNISON_LEVEL7 (R302, R461). -/
def execWriteOsc1UnisonLevel7 (v : RegVal) (s : State) : Host.Outcome State Fault Refusal := runWrite 0x113 v s

/-- READ OSC1.UNISON_LEVEL7 (R303, R461). -/
def execReadOsc1UnisonLevel7 (s : State) : Host.Outcome State Fault Refusal := runRead 0x113 s

/-- WRITE OSC1.UNISON_LEVEL8 (R302, R461). -/
def execWriteOsc1UnisonLevel8 (v : RegVal) (s : State) : Host.Outcome State Fault Refusal := runWrite 0x114 v s

/-- READ OSC1.UNISON_LEVEL8 (R303, R461). -/
def execReadOsc1UnisonLevel8 (s : State) : Host.Outcome State Fault Refusal := runRead 0x114 s

/-- WRITE OSC1.FREQ_LFO_SEL (R302, R314). -/
def execWriteOsc1FreqLfoSel (v : RegVal) (s : State) : Host.Outcome State Fault Refusal := runWrite 0x118 v s

/-- READ OSC1.FREQ_LFO_SEL (R303, R314). -/
def execReadOsc1FreqLfoSel (s : State) : Host.Outcome State Fault Refusal := runRead 0x118 s

/-- WRITE OSC1.FREQ_LFO_DEPTH (R302, R312). -/
def execWriteOsc1FreqLfoDepth (v : RegVal) (s : State) : Host.Outcome State Fault Refusal := runWrite 0x119 v s

/-- READ OSC1.FREQ_LFO_DEPTH (R303, R312). -/
def execReadOsc1FreqLfoDepth (s : State) : Host.Outcome State Fault Refusal := runRead 0x119 s

/-- WRITE OSC1.FREQ_ENV_SEL (R302, R315). -/
def execWriteOsc1FreqEnvSel (v : RegVal) (s : State) : Host.Outcome State Fault Refusal := runWrite 0x11A v s

/-- READ OSC1.FREQ_ENV_SEL (R303, R315). -/
def execReadOsc1FreqEnvSel (s : State) : Host.Outcome State Fault Refusal := runRead 0x11A s

/-- WRITE OSC1.FREQ_ENV_DEPTH (R302, R312). -/
def execWriteOsc1FreqEnvDepth (v : RegVal) (s : State) : Host.Outcome State Fault Refusal := runWrite 0x11B v s

/-- READ OSC1.FREQ_ENV_DEPTH (R303, R312). -/
def execReadOsc1FreqEnvDepth (s : State) : Host.Outcome State Fault Refusal := runRead 0x11B s

/-- WRITE OSC1.PWM_LFO_SEL (R302, R314). -/
def execWriteOsc1PwmLfoSel (v : RegVal) (s : State) : Host.Outcome State Fault Refusal := runWrite 0x11C v s

/-- READ OSC1.PWM_LFO_SEL (R303, R314). -/
def execReadOsc1PwmLfoSel (s : State) : Host.Outcome State Fault Refusal := runRead 0x11C s

/-- WRITE OSC1.PWM_LFO_DEPTH (R302, R312). -/
def execWriteOsc1PwmLfoDepth (v : RegVal) (s : State) : Host.Outcome State Fault Refusal := runWrite 0x11D v s

/-- READ OSC1.PWM_LFO_DEPTH (R303, R312). -/
def execReadOsc1PwmLfoDepth (s : State) : Host.Outcome State Fault Refusal := runRead 0x11D s

/-- WRITE OSC1.PWM_ENV_SEL (R302, R315). -/
def execWriteOsc1PwmEnvSel (v : RegVal) (s : State) : Host.Outcome State Fault Refusal := runWrite 0x11E v s

/-- READ OSC1.PWM_ENV_SEL (R303, R315). -/
def execReadOsc1PwmEnvSel (s : State) : Host.Outcome State Fault Refusal := runRead 0x11E s

/-- WRITE OSC1.PWM_ENV_DEPTH (R302, R312). -/
def execWriteOsc1PwmEnvDepth (v : RegVal) (s : State) : Host.Outcome State Fault Refusal := runWrite 0x11F v s

/-- READ OSC1.PWM_ENV_DEPTH (R303, R312). -/
def execReadOsc1PwmEnvDepth (s : State) : Host.Outcome State Fault Refusal := runRead 0x11F s

/-- WRITE OSC1.AMP_LFO_SEL (R302, R314). -/
def execWriteOsc1AmpLfoSel (v : RegVal) (s : State) : Host.Outcome State Fault Refusal := runWrite 0x120 v s

/-- READ OSC1.AMP_LFO_SEL (R303, R314). -/
def execReadOsc1AmpLfoSel (s : State) : Host.Outcome State Fault Refusal := runRead 0x120 s

/-- WRITE OSC1.AMP_LFO_DEPTH (R302, R312). -/
def execWriteOsc1AmpLfoDepth (v : RegVal) (s : State) : Host.Outcome State Fault Refusal := runWrite 0x121 v s

/-- READ OSC1.AMP_LFO_DEPTH (R303, R312). -/
def execReadOsc1AmpLfoDepth (s : State) : Host.Outcome State Fault Refusal := runRead 0x121 s

/-- WRITE OSC1.AMP_ENV_SEL (R302, R315). -/
def execWriteOsc1AmpEnvSel (v : RegVal) (s : State) : Host.Outcome State Fault Refusal := runWrite 0x122 v s

/-- READ OSC1.AMP_ENV_SEL (R303, R315). -/
def execReadOsc1AmpEnvSel (s : State) : Host.Outcome State Fault Refusal := runRead 0x122 s

/-- WRITE OSC1.AMP_ENV_DEPTH (R302, R312). -/
def execWriteOsc1AmpEnvDepth (v : RegVal) (s : State) : Host.Outcome State Fault Refusal := runWrite 0x123 v s

/-- READ OSC1.AMP_ENV_DEPTH (R303, R312). -/
def execReadOsc1AmpEnvDepth (s : State) : Host.Outcome State Fault Refusal := runRead 0x123 s

end Sys2Proof.Machine
end

