-- ==== Sys2Proof/Machine/RowsOsc2.lean ====
section
/-! DEFINITION. The register rows of unit OSC2 (10_state.md R54): WRITE_PARAM and READ_PARAM of one
address each (40_voice.md R302, R303). -/

namespace Sys2Proof.Machine

/-- WRITE OSC2.ENABLE (R302, R313). -/
def execWriteOsc2Enable (v : RegVal) (s : State) : Host.Outcome State Fault Refusal := runWrite 0x200 v s

/-- READ OSC2.ENABLE (R303, R313). -/
def execReadOsc2Enable (s : State) : Host.Outcome State Fault Refusal := runRead 0x200 s

/-- WRITE OSC2.WAVEFORM (R302, R451). -/
def execWriteOsc2Waveform (v : RegVal) (s : State) : Host.Outcome State Fault Refusal := runWrite 0x201 v s

/-- READ OSC2.WAVEFORM (R303, R451). -/
def execReadOsc2Waveform (s : State) : Host.Outcome State Fault Refusal := runRead 0x201 s

/-- WRITE OSC2.PWM_PERCENT (R302, R324). -/
def execWriteOsc2PwmPercent (v : RegVal) (s : State) : Host.Outcome State Fault Refusal := runWrite 0x202 v s

/-- READ OSC2.PWM_PERCENT (R303, R324). -/
def execReadOsc2PwmPercent (s : State) : Host.Outcome State Fault Refusal := runRead 0x202 s

/-- WRITE OSC2.OCTAVE (R302, R322). -/
def execWriteOsc2Octave (v : RegVal) (s : State) : Host.Outcome State Fault Refusal := runWrite 0x203 v s

/-- READ OSC2.OCTAVE (R303, R322). -/
def execReadOsc2Octave (s : State) : Host.Outcome State Fault Refusal := runRead 0x203 s

/-- WRITE OSC2.SEMITONE (R302, R322). -/
def execWriteOsc2Semitone (v : RegVal) (s : State) : Host.Outcome State Fault Refusal := runWrite 0x204 v s

/-- READ OSC2.SEMITONE (R303, R322). -/
def execReadOsc2Semitone (s : State) : Host.Outcome State Fault Refusal := runRead 0x204 s

/-- WRITE OSC2.CENTS (R302, R322). -/
def execWriteOsc2Cents (v : RegVal) (s : State) : Host.Outcome State Fault Refusal := runWrite 0x205 v s

/-- READ OSC2.CENTS (R303, R322). -/
def execReadOsc2Cents (s : State) : Host.Outcome State Fault Refusal := runRead 0x205 s

/-- WRITE OSC2.SEND_F1 (R302, R327). -/
def execWriteOsc2SendF1 (v : RegVal) (s : State) : Host.Outcome State Fault Refusal := runWrite 0x206 v s

/-- READ OSC2.SEND_F1 (R303, R327). -/
def execReadOsc2SendF1 (s : State) : Host.Outcome State Fault Refusal := runRead 0x206 s

/-- WRITE OSC2.SEND_F2 (R302, R327). -/
def execWriteOsc2SendF2 (v : RegVal) (s : State) : Host.Outcome State Fault Refusal := runWrite 0x207 v s

/-- READ OSC2.SEND_F2 (R303, R327). -/
def execReadOsc2SendF2 (s : State) : Host.Outcome State Fault Refusal := runRead 0x207 s

/-- WRITE OSC2.SYNC (R302, R463). -/
def execWriteOsc2Sync (v : RegVal) (s : State) : Host.Outcome State Fault Refusal := runWrite 0x208 v s

/-- READ OSC2.SYNC (R303, R463). -/
def execReadOsc2Sync (s : State) : Host.Outcome State Fault Refusal := runRead 0x208 s

/-- WRITE OSC2.UNISON_MODE (R302, R458). -/
def execWriteOsc2UnisonMode (v : RegVal) (s : State) : Host.Outcome State Fault Refusal := runWrite 0x209 v s

/-- READ OSC2.UNISON_MODE (R303, R458). -/
def execReadOsc2UnisonMode (s : State) : Host.Outcome State Fault Refusal := runRead 0x209 s

/-- WRITE OSC2.UNISON_DETUNE (R302, R459). -/
def execWriteOsc2UnisonDetune (v : RegVal) (s : State) : Host.Outcome State Fault Refusal := runWrite 0x20A v s

/-- READ OSC2.UNISON_DETUNE (R303, R459). -/
def execReadOsc2UnisonDetune (s : State) : Host.Outcome State Fault Refusal := runRead 0x20A s

/-- WRITE OSC2.UNISON_DIST (R302, R462). -/
def execWriteOsc2UnisonDist (v : RegVal) (s : State) : Host.Outcome State Fault Refusal := runWrite 0x20B v s

/-- READ OSC2.UNISON_DIST (R303, R462). -/
def execReadOsc2UnisonDist (s : State) : Host.Outcome State Fault Refusal := runRead 0x20B s

/-- WRITE OSC2.UNISON_LEVEL0 (R302, R461). -/
def execWriteOsc2UnisonLevel0 (v : RegVal) (s : State) : Host.Outcome State Fault Refusal := runWrite 0x20C v s

/-- READ OSC2.UNISON_LEVEL0 (R303, R461). -/
def execReadOsc2UnisonLevel0 (s : State) : Host.Outcome State Fault Refusal := runRead 0x20C s

/-- WRITE OSC2.UNISON_LEVEL1 (R302, R461). -/
def execWriteOsc2UnisonLevel1 (v : RegVal) (s : State) : Host.Outcome State Fault Refusal := runWrite 0x20D v s

/-- READ OSC2.UNISON_LEVEL1 (R303, R461). -/
def execReadOsc2UnisonLevel1 (s : State) : Host.Outcome State Fault Refusal := runRead 0x20D s

/-- WRITE OSC2.UNISON_LEVEL2 (R302, R461). -/
def execWriteOsc2UnisonLevel2 (v : RegVal) (s : State) : Host.Outcome State Fault Refusal := runWrite 0x20E v s

/-- READ OSC2.UNISON_LEVEL2 (R303, R461). -/
def execReadOsc2UnisonLevel2 (s : State) : Host.Outcome State Fault Refusal := runRead 0x20E s

/-- WRITE OSC2.UNISON_LEVEL3 (R302, R461). -/
def execWriteOsc2UnisonLevel3 (v : RegVal) (s : State) : Host.Outcome State Fault Refusal := runWrite 0x20F v s

/-- READ OSC2.UNISON_LEVEL3 (R303, R461). -/
def execReadOsc2UnisonLevel3 (s : State) : Host.Outcome State Fault Refusal := runRead 0x20F s

/-- WRITE OSC2.UNISON_LEVEL4 (R302, R461). -/
def execWriteOsc2UnisonLevel4 (v : RegVal) (s : State) : Host.Outcome State Fault Refusal := runWrite 0x210 v s

/-- READ OSC2.UNISON_LEVEL4 (R303, R461). -/
def execReadOsc2UnisonLevel4 (s : State) : Host.Outcome State Fault Refusal := runRead 0x210 s

/-- WRITE OSC2.UNISON_LEVEL5 (R302, R461). -/
def execWriteOsc2UnisonLevel5 (v : RegVal) (s : State) : Host.Outcome State Fault Refusal := runWrite 0x211 v s

/-- READ OSC2.UNISON_LEVEL5 (R303, R461). -/
def execReadOsc2UnisonLevel5 (s : State) : Host.Outcome State Fault Refusal := runRead 0x211 s

/-- WRITE OSC2.UNISON_LEVEL6 (R302, R461). -/
def execWriteOsc2UnisonLevel6 (v : RegVal) (s : State) : Host.Outcome State Fault Refusal := runWrite 0x212 v s

/-- READ OSC2.UNISON_LEVEL6 (R303, R461). -/
def execReadOsc2UnisonLevel6 (s : State) : Host.Outcome State Fault Refusal := runRead 0x212 s

/-- WRITE OSC2.UNISON_LEVEL7 (R302, R461). -/
def execWriteOsc2UnisonLevel7 (v : RegVal) (s : State) : Host.Outcome State Fault Refusal := runWrite 0x213 v s

/-- READ OSC2.UNISON_LEVEL7 (R303, R461). -/
def execReadOsc2UnisonLevel7 (s : State) : Host.Outcome State Fault Refusal := runRead 0x213 s

/-- WRITE OSC2.UNISON_LEVEL8 (R302, R461). -/
def execWriteOsc2UnisonLevel8 (v : RegVal) (s : State) : Host.Outcome State Fault Refusal := runWrite 0x214 v s

/-- READ OSC2.UNISON_LEVEL8 (R303, R461). -/
def execReadOsc2UnisonLevel8 (s : State) : Host.Outcome State Fault Refusal := runRead 0x214 s

/-- WRITE OSC2.FREQ_LFO_SEL (R302, R314). -/
def execWriteOsc2FreqLfoSel (v : RegVal) (s : State) : Host.Outcome State Fault Refusal := runWrite 0x218 v s

/-- READ OSC2.FREQ_LFO_SEL (R303, R314). -/
def execReadOsc2FreqLfoSel (s : State) : Host.Outcome State Fault Refusal := runRead 0x218 s

/-- WRITE OSC2.FREQ_LFO_DEPTH (R302, R312). -/
def execWriteOsc2FreqLfoDepth (v : RegVal) (s : State) : Host.Outcome State Fault Refusal := runWrite 0x219 v s

/-- READ OSC2.FREQ_LFO_DEPTH (R303, R312). -/
def execReadOsc2FreqLfoDepth (s : State) : Host.Outcome State Fault Refusal := runRead 0x219 s

/-- WRITE OSC2.FREQ_ENV_SEL (R302, R315). -/
def execWriteOsc2FreqEnvSel (v : RegVal) (s : State) : Host.Outcome State Fault Refusal := runWrite 0x21A v s

/-- READ OSC2.FREQ_ENV_SEL (R303, R315). -/
def execReadOsc2FreqEnvSel (s : State) : Host.Outcome State Fault Refusal := runRead 0x21A s

/-- WRITE OSC2.FREQ_ENV_DEPTH (R302, R312). -/
def execWriteOsc2FreqEnvDepth (v : RegVal) (s : State) : Host.Outcome State Fault Refusal := runWrite 0x21B v s

/-- READ OSC2.FREQ_ENV_DEPTH (R303, R312). -/
def execReadOsc2FreqEnvDepth (s : State) : Host.Outcome State Fault Refusal := runRead 0x21B s

/-- WRITE OSC2.PWM_LFO_SEL (R302, R314). -/
def execWriteOsc2PwmLfoSel (v : RegVal) (s : State) : Host.Outcome State Fault Refusal := runWrite 0x21C v s

/-- READ OSC2.PWM_LFO_SEL (R303, R314). -/
def execReadOsc2PwmLfoSel (s : State) : Host.Outcome State Fault Refusal := runRead 0x21C s

/-- WRITE OSC2.PWM_LFO_DEPTH (R302, R312). -/
def execWriteOsc2PwmLfoDepth (v : RegVal) (s : State) : Host.Outcome State Fault Refusal := runWrite 0x21D v s

/-- READ OSC2.PWM_LFO_DEPTH (R303, R312). -/
def execReadOsc2PwmLfoDepth (s : State) : Host.Outcome State Fault Refusal := runRead 0x21D s

/-- WRITE OSC2.PWM_ENV_SEL (R302, R315). -/
def execWriteOsc2PwmEnvSel (v : RegVal) (s : State) : Host.Outcome State Fault Refusal := runWrite 0x21E v s

/-- READ OSC2.PWM_ENV_SEL (R303, R315). -/
def execReadOsc2PwmEnvSel (s : State) : Host.Outcome State Fault Refusal := runRead 0x21E s

/-- WRITE OSC2.PWM_ENV_DEPTH (R302, R312). -/
def execWriteOsc2PwmEnvDepth (v : RegVal) (s : State) : Host.Outcome State Fault Refusal := runWrite 0x21F v s

/-- READ OSC2.PWM_ENV_DEPTH (R303, R312). -/
def execReadOsc2PwmEnvDepth (s : State) : Host.Outcome State Fault Refusal := runRead 0x21F s

/-- WRITE OSC2.AMP_LFO_SEL (R302, R314). -/
def execWriteOsc2AmpLfoSel (v : RegVal) (s : State) : Host.Outcome State Fault Refusal := runWrite 0x220 v s

/-- READ OSC2.AMP_LFO_SEL (R303, R314). -/
def execReadOsc2AmpLfoSel (s : State) : Host.Outcome State Fault Refusal := runRead 0x220 s

/-- WRITE OSC2.AMP_LFO_DEPTH (R302, R312). -/
def execWriteOsc2AmpLfoDepth (v : RegVal) (s : State) : Host.Outcome State Fault Refusal := runWrite 0x221 v s

/-- READ OSC2.AMP_LFO_DEPTH (R303, R312). -/
def execReadOsc2AmpLfoDepth (s : State) : Host.Outcome State Fault Refusal := runRead 0x221 s

/-- WRITE OSC2.AMP_ENV_SEL (R302, R315). -/
def execWriteOsc2AmpEnvSel (v : RegVal) (s : State) : Host.Outcome State Fault Refusal := runWrite 0x222 v s

/-- READ OSC2.AMP_ENV_SEL (R303, R315). -/
def execReadOsc2AmpEnvSel (s : State) : Host.Outcome State Fault Refusal := runRead 0x222 s

/-- WRITE OSC2.AMP_ENV_DEPTH (R302, R312). -/
def execWriteOsc2AmpEnvDepth (v : RegVal) (s : State) : Host.Outcome State Fault Refusal := runWrite 0x223 v s

/-- READ OSC2.AMP_ENV_DEPTH (R303, R312). -/
def execReadOsc2AmpEnvDepth (s : State) : Host.Outcome State Fault Refusal := runRead 0x223 s

end Sys2Proof.Machine
end

