-- ==== Sys2Proof/Machine/RowsPadb.lean ====
section
/-! DEFINITION. The register rows of unit PADB (10_state.md R54): WRITE_PARAM and READ_PARAM of one
address each (40_voice.md R302, R303). -/

namespace Sys2Proof.Machine

/-- WRITE PADB.BASE_NOTE (R302, R601). -/
def execWritePadbBaseNote (v : RegVal) (s : State) : Host.Outcome State Fault Refusal := runWrite 0xE00 v s

/-- READ PADB.BASE_NOTE (R303, R601). -/
def execReadPadbBaseNote (s : State) : Host.Outcome State Fault Refusal := runRead 0xE00 s

/-- WRITE PADB.HARM1 (R302, R602). -/
def execWritePadbHarm1 (v : RegVal) (s : State) : Host.Outcome State Fault Refusal := runWrite 0xE01 v s

/-- READ PADB.HARM1 (R303, R602). -/
def execReadPadbHarm1 (s : State) : Host.Outcome State Fault Refusal := runRead 0xE01 s

/-- WRITE PADB.HARM2 (R302, R602). -/
def execWritePadbHarm2 (v : RegVal) (s : State) : Host.Outcome State Fault Refusal := runWrite 0xE02 v s

/-- READ PADB.HARM2 (R303, R602). -/
def execReadPadbHarm2 (s : State) : Host.Outcome State Fault Refusal := runRead 0xE02 s

/-- WRITE PADB.HARM3 (R302, R602). -/
def execWritePadbHarm3 (v : RegVal) (s : State) : Host.Outcome State Fault Refusal := runWrite 0xE03 v s

/-- READ PADB.HARM3 (R303, R602). -/
def execReadPadbHarm3 (s : State) : Host.Outcome State Fault Refusal := runRead 0xE03 s

/-- WRITE PADB.HARM4 (R302, R602). -/
def execWritePadbHarm4 (v : RegVal) (s : State) : Host.Outcome State Fault Refusal := runWrite 0xE04 v s

/-- READ PADB.HARM4 (R303, R602). -/
def execReadPadbHarm4 (s : State) : Host.Outcome State Fault Refusal := runRead 0xE04 s

/-- WRITE PADB.HARM5 (R302, R602). -/
def execWritePadbHarm5 (v : RegVal) (s : State) : Host.Outcome State Fault Refusal := runWrite 0xE05 v s

/-- READ PADB.HARM5 (R303, R602). -/
def execReadPadbHarm5 (s : State) : Host.Outcome State Fault Refusal := runRead 0xE05 s

/-- WRITE PADB.HARM6 (R302, R602). -/
def execWritePadbHarm6 (v : RegVal) (s : State) : Host.Outcome State Fault Refusal := runWrite 0xE06 v s

/-- READ PADB.HARM6 (R303, R602). -/
def execReadPadbHarm6 (s : State) : Host.Outcome State Fault Refusal := runRead 0xE06 s

/-- WRITE PADB.HARM7 (R302, R602). -/
def execWritePadbHarm7 (v : RegVal) (s : State) : Host.Outcome State Fault Refusal := runWrite 0xE07 v s

/-- READ PADB.HARM7 (R303, R602). -/
def execReadPadbHarm7 (s : State) : Host.Outcome State Fault Refusal := runRead 0xE07 s

/-- WRITE PADB.HARM8 (R302, R602). -/
def execWritePadbHarm8 (v : RegVal) (s : State) : Host.Outcome State Fault Refusal := runWrite 0xE08 v s

/-- READ PADB.HARM8 (R303, R602). -/
def execReadPadbHarm8 (s : State) : Host.Outcome State Fault Refusal := runRead 0xE08 s

/-- WRITE PADB.HARM9 (R302, R602). -/
def execWritePadbHarm9 (v : RegVal) (s : State) : Host.Outcome State Fault Refusal := runWrite 0xE09 v s

/-- READ PADB.HARM9 (R303, R602). -/
def execReadPadbHarm9 (s : State) : Host.Outcome State Fault Refusal := runRead 0xE09 s

/-- WRITE PADB.HARM10 (R302, R602). -/
def execWritePadbHarm10 (v : RegVal) (s : State) : Host.Outcome State Fault Refusal := runWrite 0xE0A v s

/-- READ PADB.HARM10 (R303, R602). -/
def execReadPadbHarm10 (s : State) : Host.Outcome State Fault Refusal := runRead 0xE0A s

/-- WRITE PADB.SHAPE (R302, R603). -/
def execWritePadbShape (v : RegVal) (s : State) : Host.Outcome State Fault Refusal := runWrite 0xE0B v s

/-- READ PADB.SHAPE (R303, R603). -/
def execReadPadbShape (s : State) : Host.Outcome State Fault Refusal := runRead 0xE0B s

/-- WRITE PADB.HALF_CUT (R302, R604). -/
def execWritePadbHalfCut (v : RegVal) (s : State) : Host.Outcome State Fault Refusal := runWrite 0xE0C v s

/-- READ PADB.HALF_CUT (R303, R604). -/
def execReadPadbHalfCut (s : State) : Host.Outcome State Fault Refusal := runRead 0xE0C s

/-- WRITE PADB.BANDWIDTH (R302, R605). -/
def execWritePadbBandwidth (v : RegVal) (s : State) : Host.Outcome State Fault Refusal := runWrite 0xE0D v s

/-- READ PADB.BANDWIDTH (R303, R605). -/
def execReadPadbBandwidth (s : State) : Host.Outcome State Fault Refusal := runRead 0xE0D s

/-- WRITE PADB.DETUNE_SPREAD (R302, R606). -/
def execWritePadbDetuneSpread (v : RegVal) (s : State) : Host.Outcome State Fault Refusal := runWrite 0xE0E v s

/-- READ PADB.DETUNE_SPREAD (R303, R606). -/
def execReadPadbDetuneSpread (s : State) : Host.Outcome State Fault Refusal := runRead 0xE0E s

/-- WRITE PADB.QUALITY (R302, R600). -/
def execWritePadbQuality (v : RegVal) (s : State) : Host.Outcome State Fault Refusal := runWrite 0xE0F v s

/-- READ PADB.QUALITY (R303, R600). -/
def execReadPadbQuality (s : State) : Host.Outcome State Fault Refusal := runRead 0xE0F s

/-- READ PADB.BUSY (R303, R611). -/
def execReadPadbBusy (s : State) : Host.Outcome State Fault Refusal := runRead 0xE10 s

/-- READ PADB.GEN (R303, R611). -/
def execReadPadbGen (s : State) : Host.Outcome State Fault Refusal := runRead 0xE11 s

end Sys2Proof.Machine
end

