-- ==== Sys2Proof/Machine/RowsVoice.lean ====
section
/-! DEFINITION. The register rows of unit VOICE (10_state.md R54): WRITE_PARAM and READ_PARAM of one
address each (40_voice.md R302, R303). -/

namespace Sys2Proof.Machine

/-- READ VOICE.VOICE_ID (R303, R55). -/
def execReadVoiceVoiceId (s : State) : Host.Outcome State Fault Refusal := runRead 0x000 s

/-- READ VOICE.VOICE_STATE (R303, R55). -/
def execReadVoiceVoiceState (s : State) : Host.Outcome State Fault Refusal := runRead 0x001 s

/-- WRITE VOICE.STATUS (R302, R60). -/
def execWriteVoiceStatus (v : RegVal) (s : State) : Host.Outcome State Fault Refusal := runWrite 0x002 v s

/-- READ VOICE.STATUS (R303, R60). -/
def execReadVoiceStatus (s : State) : Host.Outcome State Fault Refusal := runRead 0x002 s

/-- READ VOICE.FREQ_HZ (R303, R304). -/
def execReadVoiceFreqHz (s : State) : Host.Outcome State Fault Refusal := runRead 0x003 s

end Sys2Proof.Machine
end

