-- ==== Sys2Proof/Machine/Dispatch.lean ====
section
/-! DEFINITION. One arm per instruction: its meaning. -/

namespace Sys2Proof.Machine

/-- The effect of an instruction on the core whose command is executed (40_voice.md R300). -/
def exec (i : Instr) (s : State) : Host.Outcome State Fault Refusal :=
  match i with
  | .writeParam a v => Sys2Proof.Machine.execWriteParam a v s
  | .readParam a => Sys2Proof.Machine.execReadParam a s
  | .setFrequency mhz => Sys2Proof.Machine.execSetFrequency mhz s
  | .illegalA x => Sys2Proof.Machine.execIllegalA x s
  | .illegalB x => Sys2Proof.Machine.execIllegalB x s
  | .illegalC x => Sys2Proof.Machine.execIllegalC x s
  | .illegalD x => Sys2Proof.Machine.execIllegalD x s
  | .illegalE x => Sys2Proof.Machine.execIllegalE x s
  | .illegalF x => Sys2Proof.Machine.execIllegalF x s
  | .writeVoiceStatus v => Sys2Proof.Machine.execWriteVoiceStatus v s
  | .writeOsc1Enable v => Sys2Proof.Machine.execWriteOsc1Enable v s
  | .writeOsc1Waveform v => Sys2Proof.Machine.execWriteOsc1Waveform v s
  | .writeOsc1PwmPercent v => Sys2Proof.Machine.execWriteOsc1PwmPercent v s
  | .writeOsc1Octave v => Sys2Proof.Machine.execWriteOsc1Octave v s
  | .writeOsc1Semitone v => Sys2Proof.Machine.execWriteOsc1Semitone v s
  | .writeOsc1Cents v => Sys2Proof.Machine.execWriteOsc1Cents v s
  | .writeOsc1SendF1 v => Sys2Proof.Machine.execWriteOsc1SendF1 v s
  | .writeOsc1SendF2 v => Sys2Proof.Machine.execWriteOsc1SendF2 v s
  | .writeOsc1Sync v => Sys2Proof.Machine.execWriteOsc1Sync v s
  | .writeOsc1UnisonMode v => Sys2Proof.Machine.execWriteOsc1UnisonMode v s
  | .writeOsc1UnisonDetune v => Sys2Proof.Machine.execWriteOsc1UnisonDetune v s
  | .writeOsc1UnisonDist v => Sys2Proof.Machine.execWriteOsc1UnisonDist v s
  | .writeOsc1UnisonLevel0 v => Sys2Proof.Machine.execWriteOsc1UnisonLevel0 v s
  | .writeOsc1UnisonLevel1 v => Sys2Proof.Machine.execWriteOsc1UnisonLevel1 v s
  | .writeOsc1UnisonLevel2 v => Sys2Proof.Machine.execWriteOsc1UnisonLevel2 v s
  | .writeOsc1UnisonLevel3 v => Sys2Proof.Machine.execWriteOsc1UnisonLevel3 v s
  | .writeOsc1UnisonLevel4 v => Sys2Proof.Machine.execWriteOsc1UnisonLevel4 v s
  | .writeOsc1UnisonLevel5 v => Sys2Proof.Machine.execWriteOsc1UnisonLevel5 v s
  | .writeOsc1UnisonLevel6 v => Sys2Proof.Machine.execWriteOsc1UnisonLevel6 v s
  | .writeOsc1UnisonLevel7 v => Sys2Proof.Machine.execWriteOsc1UnisonLevel7 v s
  | .writeOsc1UnisonLevel8 v => Sys2Proof.Machine.execWriteOsc1UnisonLevel8 v s
  | .writeOsc1FreqLfoSel v => Sys2Proof.Machine.execWriteOsc1FreqLfoSel v s
  | .writeOsc1FreqLfoDepth v => Sys2Proof.Machine.execWriteOsc1FreqLfoDepth v s
  | .writeOsc1FreqEnvSel v => Sys2Proof.Machine.execWriteOsc1FreqEnvSel v s
  | .writeOsc1FreqEnvDepth v => Sys2Proof.Machine.execWriteOsc1FreqEnvDepth v s
  | .writeOsc1PwmLfoSel v => Sys2Proof.Machine.execWriteOsc1PwmLfoSel v s
  | .writeOsc1PwmLfoDepth v => Sys2Proof.Machine.execWriteOsc1PwmLfoDepth v s
  | .writeOsc1PwmEnvSel v => Sys2Proof.Machine.execWriteOsc1PwmEnvSel v s
  | .writeOsc1PwmEnvDepth v => Sys2Proof.Machine.execWriteOsc1PwmEnvDepth v s
  | .writeOsc1AmpLfoSel v => Sys2Proof.Machine.execWriteOsc1AmpLfoSel v s
  | .writeOsc1AmpLfoDepth v => Sys2Proof.Machine.execWriteOsc1AmpLfoDepth v s
  | .writeOsc1AmpEnvSel v => Sys2Proof.Machine.execWriteOsc1AmpEnvSel v s
  | .writeOsc1AmpEnvDepth v => Sys2Proof.Machine.execWriteOsc1AmpEnvDepth v s
  | .writeOsc2Enable v => Sys2Proof.Machine.execWriteOsc2Enable v s
  | .writeOsc2Waveform v => Sys2Proof.Machine.execWriteOsc2Waveform v s
  | .writeOsc2PwmPercent v => Sys2Proof.Machine.execWriteOsc2PwmPercent v s
  | .writeOsc2Octave v => Sys2Proof.Machine.execWriteOsc2Octave v s
  | .writeOsc2Semitone v => Sys2Proof.Machine.execWriteOsc2Semitone v s
  | .writeOsc2Cents v => Sys2Proof.Machine.execWriteOsc2Cents v s
  | .writeOsc2SendF1 v => Sys2Proof.Machine.execWriteOsc2SendF1 v s
  | .writeOsc2SendF2 v => Sys2Proof.Machine.execWriteOsc2SendF2 v s
  | .writeOsc2Sync v => Sys2Proof.Machine.execWriteOsc2Sync v s
  | .writeOsc2UnisonMode v => Sys2Proof.Machine.execWriteOsc2UnisonMode v s
  | .writeOsc2UnisonDetune v => Sys2Proof.Machine.execWriteOsc2UnisonDetune v s
  | .writeOsc2UnisonDist v => Sys2Proof.Machine.execWriteOsc2UnisonDist v s
  | .writeOsc2UnisonLevel0 v => Sys2Proof.Machine.execWriteOsc2UnisonLevel0 v s
  | .writeOsc2UnisonLevel1 v => Sys2Proof.Machine.execWriteOsc2UnisonLevel1 v s
  | .writeOsc2UnisonLevel2 v => Sys2Proof.Machine.execWriteOsc2UnisonLevel2 v s
  | .writeOsc2UnisonLevel3 v => Sys2Proof.Machine.execWriteOsc2UnisonLevel3 v s
  | .writeOsc2UnisonLevel4 v => Sys2Proof.Machine.execWriteOsc2UnisonLevel4 v s
  | .writeOsc2UnisonLevel5 v => Sys2Proof.Machine.execWriteOsc2UnisonLevel5 v s
  | .writeOsc2UnisonLevel6 v => Sys2Proof.Machine.execWriteOsc2UnisonLevel6 v s
  | .writeOsc2UnisonLevel7 v => Sys2Proof.Machine.execWriteOsc2UnisonLevel7 v s
  | .writeOsc2UnisonLevel8 v => Sys2Proof.Machine.execWriteOsc2UnisonLevel8 v s
  | .writeOsc2FreqLfoSel v => Sys2Proof.Machine.execWriteOsc2FreqLfoSel v s
  | .writeOsc2FreqLfoDepth v => Sys2Proof.Machine.execWriteOsc2FreqLfoDepth v s
  | .writeOsc2FreqEnvSel v => Sys2Proof.Machine.execWriteOsc2FreqEnvSel v s
  | .writeOsc2FreqEnvDepth v => Sys2Proof.Machine.execWriteOsc2FreqEnvDepth v s
  | .writeOsc2PwmLfoSel v => Sys2Proof.Machine.execWriteOsc2PwmLfoSel v s
  | .writeOsc2PwmLfoDepth v => Sys2Proof.Machine.execWriteOsc2PwmLfoDepth v s
  | .writeOsc2PwmEnvSel v => Sys2Proof.Machine.execWriteOsc2PwmEnvSel v s
  | .writeOsc2PwmEnvDepth v => Sys2Proof.Machine.execWriteOsc2PwmEnvDepth v s
  | .writeOsc2AmpLfoSel v => Sys2Proof.Machine.execWriteOsc2AmpLfoSel v s
  | .writeOsc2AmpLfoDepth v => Sys2Proof.Machine.execWriteOsc2AmpLfoDepth v s
  | .writeOsc2AmpEnvSel v => Sys2Proof.Machine.execWriteOsc2AmpEnvSel v s
  | .writeOsc2AmpEnvDepth v => Sys2Proof.Machine.execWriteOsc2AmpEnvDepth v s
  | .writeNoiseEnable v => Sys2Proof.Machine.execWriteNoiseEnable v s
  | .writeNoiseColor v => Sys2Proof.Machine.execWriteNoiseColor v s
  | .writeNoiseSendF1 v => Sys2Proof.Machine.execWriteNoiseSendF1 v s
  | .writeNoiseSendF2 v => Sys2Proof.Machine.execWriteNoiseSendF2 v s
  | .writeNoiseAmpLfoSel v => Sys2Proof.Machine.execWriteNoiseAmpLfoSel v s
  | .writeNoiseAmpLfoDepth v => Sys2Proof.Machine.execWriteNoiseAmpLfoDepth v s
  | .writeNoiseAmpEnvSel v => Sys2Proof.Machine.execWriteNoiseAmpEnvSel v s
  | .writeNoiseAmpEnvDepth v => Sys2Proof.Machine.execWriteNoiseAmpEnvDepth v s
  | .writeKsEnable v => Sys2Proof.Machine.execWriteKsEnable v s
  | .writeKsExcitation v => Sys2Proof.Machine.execWriteKsExcitation v s
  | .writeKsVariation v => Sys2Proof.Machine.execWriteKsVariation v s
  | .writeKsStringDamp v => Sys2Proof.Machine.execWriteKsStringDamp v s
  | .writeKsPluckDamp v => Sys2Proof.Machine.execWriteKsPluckDamp v s
  | .writeKsDampMode v => Sys2Proof.Machine.execWriteKsDampMode v s
  | .writeKsSendF1 v => Sys2Proof.Machine.execWriteKsSendF1 v s
  | .writeKsSendF2 v => Sys2Proof.Machine.execWriteKsSendF2 v s
  | .writeKsOnDecay v => Sys2Proof.Machine.execWriteKsOnDecay v s
  | .writeKsOffDecay v => Sys2Proof.Machine.execWriteKsOffDecay v s
  | .writeMsoEnable v => Sys2Proof.Machine.execWriteMsoEnable v s
  | .writeMsoPwmPercent v => Sys2Proof.Machine.execWriteMsoPwmPercent v s
  | .writeMsoOctave v => Sys2Proof.Machine.execWriteMsoOctave v s
  | .writeMsoSemitone v => Sys2Proof.Machine.execWriteMsoSemitone v s
  | .writeMsoCents v => Sys2Proof.Machine.execWriteMsoCents v s
  | .writeMsoSendF1 v => Sys2Proof.Machine.execWriteMsoSendF1 v s
  | .writeMsoSendF2 v => Sys2Proof.Machine.execWriteMsoSendF2 v s
  | .writeMsoFreqLfoSel v => Sys2Proof.Machine.execWriteMsoFreqLfoSel v s
  | .writeMsoFreqLfoDepth v => Sys2Proof.Machine.execWriteMsoFreqLfoDepth v s
  | .writeMsoFreqEnvSel v => Sys2Proof.Machine.execWriteMsoFreqEnvSel v s
  | .writeMsoFreqEnvDepth v => Sys2Proof.Machine.execWriteMsoFreqEnvDepth v s
  | .writeMsoPwmLfoSel v => Sys2Proof.Machine.execWriteMsoPwmLfoSel v s
  | .writeMsoPwmLfoDepth v => Sys2Proof.Machine.execWriteMsoPwmLfoDepth v s
  | .writeMsoPwmEnvSel v => Sys2Proof.Machine.execWriteMsoPwmEnvSel v s
  | .writeMsoPwmEnvDepth v => Sys2Proof.Machine.execWriteMsoPwmEnvDepth v s
  | .writeMsoAmpLfoSel v => Sys2Proof.Machine.execWriteMsoAmpLfoSel v s
  | .writeMsoAmpLfoDepth v => Sys2Proof.Machine.execWriteMsoAmpLfoDepth v s
  | .writeMsoAmpEnvSel v => Sys2Proof.Machine.execWriteMsoAmpEnvSel v s
  | .writeMsoAmpEnvDepth v => Sys2Proof.Machine.execWriteMsoAmpEnvDepth v s
  | .writePadEnable v => Sys2Proof.Machine.execWritePadEnable v s
  | .writePadOctave v => Sys2Proof.Machine.execWritePadOctave v s
  | .writePadSemitone v => Sys2Proof.Machine.execWritePadSemitone v s
  | .writePadCents v => Sys2Proof.Machine.execWritePadCents v s
  | .writePadSendF1 v => Sys2Proof.Machine.execWritePadSendF1 v s
  | .writePadSendF2 v => Sys2Proof.Machine.execWritePadSendF2 v s
  | .writePadFreqLfoSel v => Sys2Proof.Machine.execWritePadFreqLfoSel v s
  | .writePadFreqLfoDepth v => Sys2Proof.Machine.execWritePadFreqLfoDepth v s
  | .writePadFreqEnvSel v => Sys2Proof.Machine.execWritePadFreqEnvSel v s
  | .writePadFreqEnvDepth v => Sys2Proof.Machine.execWritePadFreqEnvDepth v s
  | .writePadAmpLfoSel v => Sys2Proof.Machine.execWritePadAmpLfoSel v s
  | .writePadAmpLfoDepth v => Sys2Proof.Machine.execWritePadAmpLfoDepth v s
  | .writePadAmpEnvSel v => Sys2Proof.Machine.execWritePadAmpEnvSel v s
  | .writePadAmpEnvDepth v => Sys2Proof.Machine.execWritePadAmpEnvDepth v s
  | .writeFilt1Freq v => Sys2Proof.Machine.execWriteFilt1Freq v s
  | .writeFilt1Octave v => Sys2Proof.Machine.execWriteFilt1Octave v s
  | .writeFilt1Q v => Sys2Proof.Machine.execWriteFilt1Q v s
  | .writeFilt1Band v => Sys2Proof.Machine.execWriteFilt1Band v s
  | .writeFilt1KbdTrack v => Sys2Proof.Machine.execWriteFilt1KbdTrack v s
  | .writeFilt1FreqLfoSel v => Sys2Proof.Machine.execWriteFilt1FreqLfoSel v s
  | .writeFilt1FreqLfoDepth v => Sys2Proof.Machine.execWriteFilt1FreqLfoDepth v s
  | .writeFilt1FreqEnvSel v => Sys2Proof.Machine.execWriteFilt1FreqEnvSel v s
  | .writeFilt1FreqEnvDepth v => Sys2Proof.Machine.execWriteFilt1FreqEnvDepth v s
  | .writeFilt2Freq v => Sys2Proof.Machine.execWriteFilt2Freq v s
  | .writeFilt2Octave v => Sys2Proof.Machine.execWriteFilt2Octave v s
  | .writeFilt2Q v => Sys2Proof.Machine.execWriteFilt2Q v s
  | .writeFilt2Band v => Sys2Proof.Machine.execWriteFilt2Band v s
  | .writeFilt2KbdTrack v => Sys2Proof.Machine.execWriteFilt2KbdTrack v s
  | .writeFilt2FreqLfoSel v => Sys2Proof.Machine.execWriteFilt2FreqLfoSel v s
  | .writeFilt2FreqLfoDepth v => Sys2Proof.Machine.execWriteFilt2FreqLfoDepth v s
  | .writeFilt2FreqEnvSel v => Sys2Proof.Machine.execWriteFilt2FreqEnvSel v s
  | .writeFilt2FreqEnvDepth v => Sys2Proof.Machine.execWriteFilt2FreqEnvDepth v s
  | .writeDist1Enable v => Sys2Proof.Machine.execWriteDist1Enable v s
  | .writeDist1Drive v => Sys2Proof.Machine.execWriteDist1Drive v s
  | .writeDist1Range v => Sys2Proof.Machine.execWriteDist1Range v s
  | .writeDist1Blend v => Sys2Proof.Machine.execWriteDist1Blend v s
  | .writeDist1AutoGain v => Sys2Proof.Machine.execWriteDist1AutoGain v s
  | .writeDist2Enable v => Sys2Proof.Machine.execWriteDist2Enable v s
  | .writeDist2Drive v => Sys2Proof.Machine.execWriteDist2Drive v s
  | .writeDist2Range v => Sys2Proof.Machine.execWriteDist2Range v s
  | .writeDist2Blend v => Sys2Proof.Machine.execWriteDist2Blend v s
  | .writeDist2AutoGain v => Sys2Proof.Machine.execWriteDist2AutoGain v s
  | .writeAmpGain1 v => Sys2Proof.Machine.execWriteAmpGain1 v s
  | .writeAmpPan1 v => Sys2Proof.Machine.execWriteAmpPan1 v s
  | .writeAmpGain2 v => Sys2Proof.Machine.execWriteAmpGain2 v s
  | .writeAmpPan2 v => Sys2Proof.Machine.execWriteAmpPan2 v s
  | .writeAmpPan1LfoSel v => Sys2Proof.Machine.execWriteAmpPan1LfoSel v s
  | .writeAmpPan1LfoDepth v => Sys2Proof.Machine.execWriteAmpPan1LfoDepth v s
  | .writeAmpPan1EnvSel v => Sys2Proof.Machine.execWriteAmpPan1EnvSel v s
  | .writeAmpPan1EnvDepth v => Sys2Proof.Machine.execWriteAmpPan1EnvDepth v s
  | .writeAmpPan2LfoSel v => Sys2Proof.Machine.execWriteAmpPan2LfoSel v s
  | .writeAmpPan2LfoDepth v => Sys2Proof.Machine.execWriteAmpPan2LfoDepth v s
  | .writeAmpPan2EnvSel v => Sys2Proof.Machine.execWriteAmpPan2EnvSel v s
  | .writeAmpPan2EnvDepth v => Sys2Proof.Machine.execWriteAmpPan2EnvDepth v s
  | .writeLfo1Waveform v => Sys2Proof.Machine.execWriteLfo1Waveform v s
  | .writeLfo1Rate v => Sys2Proof.Machine.execWriteLfo1Rate v s
  | .writeLfo1Symmetry v => Sys2Proof.Machine.execWriteLfo1Symmetry v s
  | .writeLfo2Waveform v => Sys2Proof.Machine.execWriteLfo2Waveform v s
  | .writeLfo2Rate v => Sys2Proof.Machine.execWriteLfo2Rate v s
  | .writeLfo2Symmetry v => Sys2Proof.Machine.execWriteLfo2Symmetry v s
  | .writeLfo3Waveform v => Sys2Proof.Machine.execWriteLfo3Waveform v s
  | .writeLfo3Rate v => Sys2Proof.Machine.execWriteLfo3Rate v s
  | .writeLfo3Symmetry v => Sys2Proof.Machine.execWriteLfo3Symmetry v s
  | .writeLfo4Waveform v => Sys2Proof.Machine.execWriteLfo4Waveform v s
  | .writeLfo4Rate v => Sys2Proof.Machine.execWriteLfo4Rate v s
  | .writeLfo4Symmetry v => Sys2Proof.Machine.execWriteLfo4Symmetry v s
  | .writeLfo5Waveform v => Sys2Proof.Machine.execWriteLfo5Waveform v s
  | .writeLfo5Rate v => Sys2Proof.Machine.execWriteLfo5Rate v s
  | .writeLfo5Symmetry v => Sys2Proof.Machine.execWriteLfo5Symmetry v s
  | .writeAdsr1Attack v => Sys2Proof.Machine.execWriteAdsr1Attack v s
  | .writeAdsr1Decay v => Sys2Proof.Machine.execWriteAdsr1Decay v s
  | .writeAdsr1Sustain v => Sys2Proof.Machine.execWriteAdsr1Sustain v s
  | .writeAdsr1Release v => Sys2Proof.Machine.execWriteAdsr1Release v s
  | .writeAdsr1Send1 v => Sys2Proof.Machine.execWriteAdsr1Send1 v s
  | .writeAdsr1Send2 v => Sys2Proof.Machine.execWriteAdsr1Send2 v s
  | .writeAdsr2Attack v => Sys2Proof.Machine.execWriteAdsr2Attack v s
  | .writeAdsr2Decay v => Sys2Proof.Machine.execWriteAdsr2Decay v s
  | .writeAdsr2Sustain v => Sys2Proof.Machine.execWriteAdsr2Sustain v s
  | .writeAdsr2Release v => Sys2Proof.Machine.execWriteAdsr2Release v s
  | .writeAdsr2Send1 v => Sys2Proof.Machine.execWriteAdsr2Send1 v s
  | .writeAdsr2Send2 v => Sys2Proof.Machine.execWriteAdsr2Send2 v s
  | .writeAdsr3Attack v => Sys2Proof.Machine.execWriteAdsr3Attack v s
  | .writeAdsr3Decay v => Sys2Proof.Machine.execWriteAdsr3Decay v s
  | .writeAdsr3Sustain v => Sys2Proof.Machine.execWriteAdsr3Sustain v s
  | .writeAdsr3Release v => Sys2Proof.Machine.execWriteAdsr3Release v s
  | .writeAdsr3Send1 v => Sys2Proof.Machine.execWriteAdsr3Send1 v s
  | .writeAdsr3Send2 v => Sys2Proof.Machine.execWriteAdsr3Send2 v s
  | .writeAdsr4Attack v => Sys2Proof.Machine.execWriteAdsr4Attack v s
  | .writeAdsr4Decay v => Sys2Proof.Machine.execWriteAdsr4Decay v s
  | .writeAdsr4Sustain v => Sys2Proof.Machine.execWriteAdsr4Sustain v s
  | .writeAdsr4Release v => Sys2Proof.Machine.execWriteAdsr4Release v s
  | .writeAdsr4Send1 v => Sys2Proof.Machine.execWriteAdsr4Send1 v s
  | .writeAdsr4Send2 v => Sys2Proof.Machine.execWriteAdsr4Send2 v s
  | .writeAdsr5Attack v => Sys2Proof.Machine.execWriteAdsr5Attack v s
  | .writeAdsr5Decay v => Sys2Proof.Machine.execWriteAdsr5Decay v s
  | .writeAdsr5Sustain v => Sys2Proof.Machine.execWriteAdsr5Sustain v s
  | .writeAdsr5Release v => Sys2Proof.Machine.execWriteAdsr5Release v s
  | .writeAdsr5Send1 v => Sys2Proof.Machine.execWriteAdsr5Send1 v s
  | .writeAdsr5Send2 v => Sys2Proof.Machine.execWriteAdsr5Send2 v s
  | .writePadbBaseNote v => Sys2Proof.Machine.execWritePadbBaseNote v s
  | .writePadbHarm1 v => Sys2Proof.Machine.execWritePadbHarm1 v s
  | .writePadbHarm2 v => Sys2Proof.Machine.execWritePadbHarm2 v s
  | .writePadbHarm3 v => Sys2Proof.Machine.execWritePadbHarm3 v s
  | .writePadbHarm4 v => Sys2Proof.Machine.execWritePadbHarm4 v s
  | .writePadbHarm5 v => Sys2Proof.Machine.execWritePadbHarm5 v s
  | .writePadbHarm6 v => Sys2Proof.Machine.execWritePadbHarm6 v s
  | .writePadbHarm7 v => Sys2Proof.Machine.execWritePadbHarm7 v s
  | .writePadbHarm8 v => Sys2Proof.Machine.execWritePadbHarm8 v s
  | .writePadbHarm9 v => Sys2Proof.Machine.execWritePadbHarm9 v s
  | .writePadbHarm10 v => Sys2Proof.Machine.execWritePadbHarm10 v s
  | .writePadbShape v => Sys2Proof.Machine.execWritePadbShape v s
  | .writePadbHalfCut v => Sys2Proof.Machine.execWritePadbHalfCut v s
  | .writePadbBandwidth v => Sys2Proof.Machine.execWritePadbBandwidth v s
  | .writePadbDetuneSpread v => Sys2Proof.Machine.execWritePadbDetuneSpread v s
  | .writePadbQuality v => Sys2Proof.Machine.execWritePadbQuality v s
  | .writeMsobBpA v => Sys2Proof.Machine.execWriteMsobBpA v s
  | .writeMsobBpB v => Sys2Proof.Machine.execWriteMsobBpB v s
  | .writeMsobBpC v => Sys2Proof.Machine.execWriteMsobBpC v s
  | .writeMsobBpD v => Sys2Proof.Machine.execWriteMsobBpD v s
  | .writeMsobBpE v => Sys2Proof.Machine.execWriteMsobBpE v s
  | .writeMsobBpF v => Sys2Proof.Machine.execWriteMsobBpF v s
  | .writeMsobSymmetry v => Sys2Proof.Machine.execWriteMsobSymmetry v s
  | .nop => Sys2Proof.Machine.execNop s
  | .noteOn => Sys2Proof.Machine.execNoteOn s
  | .noteOff => Sys2Proof.Machine.execNoteOff s
  | .tickControl => Sys2Proof.Machine.execTickControl s
  | .renderSample => Sys2Proof.Machine.execRenderSample s
  | .clearFilters => Sys2Proof.Machine.execClearFilters s
  | .buildPad => Sys2Proof.Machine.execBuildPad s
  | .readVoiceVoiceId => Sys2Proof.Machine.execReadVoiceVoiceId s
  | .readVoiceVoiceState => Sys2Proof.Machine.execReadVoiceVoiceState s
  | .readVoiceStatus => Sys2Proof.Machine.execReadVoiceStatus s
  | .readVoiceFreqHz => Sys2Proof.Machine.execReadVoiceFreqHz s
  | .readOsc1Enable => Sys2Proof.Machine.execReadOsc1Enable s
  | .readOsc1Waveform => Sys2Proof.Machine.execReadOsc1Waveform s
  | .readOsc1PwmPercent => Sys2Proof.Machine.execReadOsc1PwmPercent s
  | .readOsc1Octave => Sys2Proof.Machine.execReadOsc1Octave s
  | .readOsc1Semitone => Sys2Proof.Machine.execReadOsc1Semitone s
  | .readOsc1Cents => Sys2Proof.Machine.execReadOsc1Cents s
  | .readOsc1SendF1 => Sys2Proof.Machine.execReadOsc1SendF1 s
  | .readOsc1SendF2 => Sys2Proof.Machine.execReadOsc1SendF2 s
  | .readOsc1Sync => Sys2Proof.Machine.execReadOsc1Sync s
  | .readOsc1UnisonMode => Sys2Proof.Machine.execReadOsc1UnisonMode s
  | .readOsc1UnisonDetune => Sys2Proof.Machine.execReadOsc1UnisonDetune s
  | .readOsc1UnisonDist => Sys2Proof.Machine.execReadOsc1UnisonDist s
  | .readOsc1UnisonLevel0 => Sys2Proof.Machine.execReadOsc1UnisonLevel0 s
  | .readOsc1UnisonLevel1 => Sys2Proof.Machine.execReadOsc1UnisonLevel1 s
  | .readOsc1UnisonLevel2 => Sys2Proof.Machine.execReadOsc1UnisonLevel2 s
  | .readOsc1UnisonLevel3 => Sys2Proof.Machine.execReadOsc1UnisonLevel3 s
  | .readOsc1UnisonLevel4 => Sys2Proof.Machine.execReadOsc1UnisonLevel4 s
  | .readOsc1UnisonLevel5 => Sys2Proof.Machine.execReadOsc1UnisonLevel5 s
  | .readOsc1UnisonLevel6 => Sys2Proof.Machine.execReadOsc1UnisonLevel6 s
  | .readOsc1UnisonLevel7 => Sys2Proof.Machine.execReadOsc1UnisonLevel7 s
  | .readOsc1UnisonLevel8 => Sys2Proof.Machine.execReadOsc1UnisonLevel8 s
  | .readOsc1FreqLfoSel => Sys2Proof.Machine.execReadOsc1FreqLfoSel s
  | .readOsc1FreqLfoDepth => Sys2Proof.Machine.execReadOsc1FreqLfoDepth s
  | .readOsc1FreqEnvSel => Sys2Proof.Machine.execReadOsc1FreqEnvSel s
  | .readOsc1FreqEnvDepth => Sys2Proof.Machine.execReadOsc1FreqEnvDepth s
  | .readOsc1PwmLfoSel => Sys2Proof.Machine.execReadOsc1PwmLfoSel s
  | .readOsc1PwmLfoDepth => Sys2Proof.Machine.execReadOsc1PwmLfoDepth s
  | .readOsc1PwmEnvSel => Sys2Proof.Machine.execReadOsc1PwmEnvSel s
  | .readOsc1PwmEnvDepth => Sys2Proof.Machine.execReadOsc1PwmEnvDepth s
  | .readOsc1AmpLfoSel => Sys2Proof.Machine.execReadOsc1AmpLfoSel s
  | .readOsc1AmpLfoDepth => Sys2Proof.Machine.execReadOsc1AmpLfoDepth s
  | .readOsc1AmpEnvSel => Sys2Proof.Machine.execReadOsc1AmpEnvSel s
  | .readOsc1AmpEnvDepth => Sys2Proof.Machine.execReadOsc1AmpEnvDepth s
  | .readOsc2Enable => Sys2Proof.Machine.execReadOsc2Enable s
  | .readOsc2Waveform => Sys2Proof.Machine.execReadOsc2Waveform s
  | .readOsc2PwmPercent => Sys2Proof.Machine.execReadOsc2PwmPercent s
  | .readOsc2Octave => Sys2Proof.Machine.execReadOsc2Octave s
  | .readOsc2Semitone => Sys2Proof.Machine.execReadOsc2Semitone s
  | .readOsc2Cents => Sys2Proof.Machine.execReadOsc2Cents s
  | .readOsc2SendF1 => Sys2Proof.Machine.execReadOsc2SendF1 s
  | .readOsc2SendF2 => Sys2Proof.Machine.execReadOsc2SendF2 s
  | .readOsc2Sync => Sys2Proof.Machine.execReadOsc2Sync s
  | .readOsc2UnisonMode => Sys2Proof.Machine.execReadOsc2UnisonMode s
  | .readOsc2UnisonDetune => Sys2Proof.Machine.execReadOsc2UnisonDetune s
  | .readOsc2UnisonDist => Sys2Proof.Machine.execReadOsc2UnisonDist s
  | .readOsc2UnisonLevel0 => Sys2Proof.Machine.execReadOsc2UnisonLevel0 s
  | .readOsc2UnisonLevel1 => Sys2Proof.Machine.execReadOsc2UnisonLevel1 s
  | .readOsc2UnisonLevel2 => Sys2Proof.Machine.execReadOsc2UnisonLevel2 s
  | .readOsc2UnisonLevel3 => Sys2Proof.Machine.execReadOsc2UnisonLevel3 s
  | .readOsc2UnisonLevel4 => Sys2Proof.Machine.execReadOsc2UnisonLevel4 s
  | .readOsc2UnisonLevel5 => Sys2Proof.Machine.execReadOsc2UnisonLevel5 s
  | .readOsc2UnisonLevel6 => Sys2Proof.Machine.execReadOsc2UnisonLevel6 s
  | .readOsc2UnisonLevel7 => Sys2Proof.Machine.execReadOsc2UnisonLevel7 s
  | .readOsc2UnisonLevel8 => Sys2Proof.Machine.execReadOsc2UnisonLevel8 s
  | .readOsc2FreqLfoSel => Sys2Proof.Machine.execReadOsc2FreqLfoSel s
  | .readOsc2FreqLfoDepth => Sys2Proof.Machine.execReadOsc2FreqLfoDepth s
  | .readOsc2FreqEnvSel => Sys2Proof.Machine.execReadOsc2FreqEnvSel s
  | .readOsc2FreqEnvDepth => Sys2Proof.Machine.execReadOsc2FreqEnvDepth s
  | .readOsc2PwmLfoSel => Sys2Proof.Machine.execReadOsc2PwmLfoSel s
  | .readOsc2PwmLfoDepth => Sys2Proof.Machine.execReadOsc2PwmLfoDepth s
  | .readOsc2PwmEnvSel => Sys2Proof.Machine.execReadOsc2PwmEnvSel s
  | .readOsc2PwmEnvDepth => Sys2Proof.Machine.execReadOsc2PwmEnvDepth s
  | .readOsc2AmpLfoSel => Sys2Proof.Machine.execReadOsc2AmpLfoSel s
  | .readOsc2AmpLfoDepth => Sys2Proof.Machine.execReadOsc2AmpLfoDepth s
  | .readOsc2AmpEnvSel => Sys2Proof.Machine.execReadOsc2AmpEnvSel s
  | .readOsc2AmpEnvDepth => Sys2Proof.Machine.execReadOsc2AmpEnvDepth s
  | .readNoiseEnable => Sys2Proof.Machine.execReadNoiseEnable s
  | .readNoiseColor => Sys2Proof.Machine.execReadNoiseColor s
  | .readNoiseSendF1 => Sys2Proof.Machine.execReadNoiseSendF1 s
  | .readNoiseSendF2 => Sys2Proof.Machine.execReadNoiseSendF2 s
  | .readNoiseAmpLfoSel => Sys2Proof.Machine.execReadNoiseAmpLfoSel s
  | .readNoiseAmpLfoDepth => Sys2Proof.Machine.execReadNoiseAmpLfoDepth s
  | .readNoiseAmpEnvSel => Sys2Proof.Machine.execReadNoiseAmpEnvSel s
  | .readNoiseAmpEnvDepth => Sys2Proof.Machine.execReadNoiseAmpEnvDepth s
  | .readKsEnable => Sys2Proof.Machine.execReadKsEnable s
  | .readKsExcitation => Sys2Proof.Machine.execReadKsExcitation s
  | .readKsVariation => Sys2Proof.Machine.execReadKsVariation s
  | .readKsStringDamp => Sys2Proof.Machine.execReadKsStringDamp s
  | .readKsPluckDamp => Sys2Proof.Machine.execReadKsPluckDamp s
  | .readKsDampMode => Sys2Proof.Machine.execReadKsDampMode s
  | .readKsSendF1 => Sys2Proof.Machine.execReadKsSendF1 s
  | .readKsSendF2 => Sys2Proof.Machine.execReadKsSendF2 s
  | .readKsOnDecay => Sys2Proof.Machine.execReadKsOnDecay s
  | .readKsOffDecay => Sys2Proof.Machine.execReadKsOffDecay s
  | .readMsoEnable => Sys2Proof.Machine.execReadMsoEnable s
  | .readMsoPwmPercent => Sys2Proof.Machine.execReadMsoPwmPercent s
  | .readMsoOctave => Sys2Proof.Machine.execReadMsoOctave s
  | .readMsoSemitone => Sys2Proof.Machine.execReadMsoSemitone s
  | .readMsoCents => Sys2Proof.Machine.execReadMsoCents s
  | .readMsoSendF1 => Sys2Proof.Machine.execReadMsoSendF1 s
  | .readMsoSendF2 => Sys2Proof.Machine.execReadMsoSendF2 s
  | .readMsoFreqLfoSel => Sys2Proof.Machine.execReadMsoFreqLfoSel s
  | .readMsoFreqLfoDepth => Sys2Proof.Machine.execReadMsoFreqLfoDepth s
  | .readMsoFreqEnvSel => Sys2Proof.Machine.execReadMsoFreqEnvSel s
  | .readMsoFreqEnvDepth => Sys2Proof.Machine.execReadMsoFreqEnvDepth s
  | .readMsoPwmLfoSel => Sys2Proof.Machine.execReadMsoPwmLfoSel s
  | .readMsoPwmLfoDepth => Sys2Proof.Machine.execReadMsoPwmLfoDepth s
  | .readMsoPwmEnvSel => Sys2Proof.Machine.execReadMsoPwmEnvSel s
  | .readMsoPwmEnvDepth => Sys2Proof.Machine.execReadMsoPwmEnvDepth s
  | .readMsoAmpLfoSel => Sys2Proof.Machine.execReadMsoAmpLfoSel s
  | .readMsoAmpLfoDepth => Sys2Proof.Machine.execReadMsoAmpLfoDepth s
  | .readMsoAmpEnvSel => Sys2Proof.Machine.execReadMsoAmpEnvSel s
  | .readMsoAmpEnvDepth => Sys2Proof.Machine.execReadMsoAmpEnvDepth s
  | .readPadEnable => Sys2Proof.Machine.execReadPadEnable s
  | .readPadOctave => Sys2Proof.Machine.execReadPadOctave s
  | .readPadSemitone => Sys2Proof.Machine.execReadPadSemitone s
  | .readPadCents => Sys2Proof.Machine.execReadPadCents s
  | .readPadSendF1 => Sys2Proof.Machine.execReadPadSendF1 s
  | .readPadSendF2 => Sys2Proof.Machine.execReadPadSendF2 s
  | .readPadFreqLfoSel => Sys2Proof.Machine.execReadPadFreqLfoSel s
  | .readPadFreqLfoDepth => Sys2Proof.Machine.execReadPadFreqLfoDepth s
  | .readPadFreqEnvSel => Sys2Proof.Machine.execReadPadFreqEnvSel s
  | .readPadFreqEnvDepth => Sys2Proof.Machine.execReadPadFreqEnvDepth s
  | .readPadAmpLfoSel => Sys2Proof.Machine.execReadPadAmpLfoSel s
  | .readPadAmpLfoDepth => Sys2Proof.Machine.execReadPadAmpLfoDepth s
  | .readPadAmpEnvSel => Sys2Proof.Machine.execReadPadAmpEnvSel s
  | .readPadAmpEnvDepth => Sys2Proof.Machine.execReadPadAmpEnvDepth s
  | .readFilt1Freq => Sys2Proof.Machine.execReadFilt1Freq s
  | .readFilt1Octave => Sys2Proof.Machine.execReadFilt1Octave s
  | .readFilt1Q => Sys2Proof.Machine.execReadFilt1Q s
  | .readFilt1Band => Sys2Proof.Machine.execReadFilt1Band s
  | .readFilt1KbdTrack => Sys2Proof.Machine.execReadFilt1KbdTrack s
  | .readFilt1FreqLfoSel => Sys2Proof.Machine.execReadFilt1FreqLfoSel s
  | .readFilt1FreqLfoDepth => Sys2Proof.Machine.execReadFilt1FreqLfoDepth s
  | .readFilt1FreqEnvSel => Sys2Proof.Machine.execReadFilt1FreqEnvSel s
  | .readFilt1FreqEnvDepth => Sys2Proof.Machine.execReadFilt1FreqEnvDepth s
  | .readFilt2Freq => Sys2Proof.Machine.execReadFilt2Freq s
  | .readFilt2Octave => Sys2Proof.Machine.execReadFilt2Octave s
  | .readFilt2Q => Sys2Proof.Machine.execReadFilt2Q s
  | .readFilt2Band => Sys2Proof.Machine.execReadFilt2Band s
  | .readFilt2KbdTrack => Sys2Proof.Machine.execReadFilt2KbdTrack s
  | .readFilt2FreqLfoSel => Sys2Proof.Machine.execReadFilt2FreqLfoSel s
  | .readFilt2FreqLfoDepth => Sys2Proof.Machine.execReadFilt2FreqLfoDepth s
  | .readFilt2FreqEnvSel => Sys2Proof.Machine.execReadFilt2FreqEnvSel s
  | .readFilt2FreqEnvDepth => Sys2Proof.Machine.execReadFilt2FreqEnvDepth s
  | .readDist1Enable => Sys2Proof.Machine.execReadDist1Enable s
  | .readDist1Drive => Sys2Proof.Machine.execReadDist1Drive s
  | .readDist1Range => Sys2Proof.Machine.execReadDist1Range s
  | .readDist1Blend => Sys2Proof.Machine.execReadDist1Blend s
  | .readDist1AutoGain => Sys2Proof.Machine.execReadDist1AutoGain s
  | .readDist2Enable => Sys2Proof.Machine.execReadDist2Enable s
  | .readDist2Drive => Sys2Proof.Machine.execReadDist2Drive s
  | .readDist2Range => Sys2Proof.Machine.execReadDist2Range s
  | .readDist2Blend => Sys2Proof.Machine.execReadDist2Blend s
  | .readDist2AutoGain => Sys2Proof.Machine.execReadDist2AutoGain s
  | .readAmpGain1 => Sys2Proof.Machine.execReadAmpGain1 s
  | .readAmpPan1 => Sys2Proof.Machine.execReadAmpPan1 s
  | .readAmpGain2 => Sys2Proof.Machine.execReadAmpGain2 s
  | .readAmpPan2 => Sys2Proof.Machine.execReadAmpPan2 s
  | .readAmpPan1LfoSel => Sys2Proof.Machine.execReadAmpPan1LfoSel s
  | .readAmpPan1LfoDepth => Sys2Proof.Machine.execReadAmpPan1LfoDepth s
  | .readAmpPan1EnvSel => Sys2Proof.Machine.execReadAmpPan1EnvSel s
  | .readAmpPan1EnvDepth => Sys2Proof.Machine.execReadAmpPan1EnvDepth s
  | .readAmpPan2LfoSel => Sys2Proof.Machine.execReadAmpPan2LfoSel s
  | .readAmpPan2LfoDepth => Sys2Proof.Machine.execReadAmpPan2LfoDepth s
  | .readAmpPan2EnvSel => Sys2Proof.Machine.execReadAmpPan2EnvSel s
  | .readAmpPan2EnvDepth => Sys2Proof.Machine.execReadAmpPan2EnvDepth s
  | .readLfo1Waveform => Sys2Proof.Machine.execReadLfo1Waveform s
  | .readLfo1Rate => Sys2Proof.Machine.execReadLfo1Rate s
  | .readLfo1Symmetry => Sys2Proof.Machine.execReadLfo1Symmetry s
  | .readLfo2Waveform => Sys2Proof.Machine.execReadLfo2Waveform s
  | .readLfo2Rate => Sys2Proof.Machine.execReadLfo2Rate s
  | .readLfo2Symmetry => Sys2Proof.Machine.execReadLfo2Symmetry s
  | .readLfo3Waveform => Sys2Proof.Machine.execReadLfo3Waveform s
  | .readLfo3Rate => Sys2Proof.Machine.execReadLfo3Rate s
  | .readLfo3Symmetry => Sys2Proof.Machine.execReadLfo3Symmetry s
  | .readLfo4Waveform => Sys2Proof.Machine.execReadLfo4Waveform s
  | .readLfo4Rate => Sys2Proof.Machine.execReadLfo4Rate s
  | .readLfo4Symmetry => Sys2Proof.Machine.execReadLfo4Symmetry s
  | .readLfo5Waveform => Sys2Proof.Machine.execReadLfo5Waveform s
  | .readLfo5Rate => Sys2Proof.Machine.execReadLfo5Rate s
  | .readLfo5Symmetry => Sys2Proof.Machine.execReadLfo5Symmetry s
  | .readAdsr1Attack => Sys2Proof.Machine.execReadAdsr1Attack s
  | .readAdsr1Decay => Sys2Proof.Machine.execReadAdsr1Decay s
  | .readAdsr1Sustain => Sys2Proof.Machine.execReadAdsr1Sustain s
  | .readAdsr1Release => Sys2Proof.Machine.execReadAdsr1Release s
  | .readAdsr1Send1 => Sys2Proof.Machine.execReadAdsr1Send1 s
  | .readAdsr1Send2 => Sys2Proof.Machine.execReadAdsr1Send2 s
  | .readAdsr1State => Sys2Proof.Machine.execReadAdsr1State s
  | .readAdsr2Attack => Sys2Proof.Machine.execReadAdsr2Attack s
  | .readAdsr2Decay => Sys2Proof.Machine.execReadAdsr2Decay s
  | .readAdsr2Sustain => Sys2Proof.Machine.execReadAdsr2Sustain s
  | .readAdsr2Release => Sys2Proof.Machine.execReadAdsr2Release s
  | .readAdsr2Send1 => Sys2Proof.Machine.execReadAdsr2Send1 s
  | .readAdsr2Send2 => Sys2Proof.Machine.execReadAdsr2Send2 s
  | .readAdsr2State => Sys2Proof.Machine.execReadAdsr2State s
  | .readAdsr3Attack => Sys2Proof.Machine.execReadAdsr3Attack s
  | .readAdsr3Decay => Sys2Proof.Machine.execReadAdsr3Decay s
  | .readAdsr3Sustain => Sys2Proof.Machine.execReadAdsr3Sustain s
  | .readAdsr3Release => Sys2Proof.Machine.execReadAdsr3Release s
  | .readAdsr3Send1 => Sys2Proof.Machine.execReadAdsr3Send1 s
  | .readAdsr3Send2 => Sys2Proof.Machine.execReadAdsr3Send2 s
  | .readAdsr3State => Sys2Proof.Machine.execReadAdsr3State s
  | .readAdsr4Attack => Sys2Proof.Machine.execReadAdsr4Attack s
  | .readAdsr4Decay => Sys2Proof.Machine.execReadAdsr4Decay s
  | .readAdsr4Sustain => Sys2Proof.Machine.execReadAdsr4Sustain s
  | .readAdsr4Release => Sys2Proof.Machine.execReadAdsr4Release s
  | .readAdsr4Send1 => Sys2Proof.Machine.execReadAdsr4Send1 s
  | .readAdsr4Send2 => Sys2Proof.Machine.execReadAdsr4Send2 s
  | .readAdsr4State => Sys2Proof.Machine.execReadAdsr4State s
  | .readAdsr5Attack => Sys2Proof.Machine.execReadAdsr5Attack s
  | .readAdsr5Decay => Sys2Proof.Machine.execReadAdsr5Decay s
  | .readAdsr5Sustain => Sys2Proof.Machine.execReadAdsr5Sustain s
  | .readAdsr5Release => Sys2Proof.Machine.execReadAdsr5Release s
  | .readAdsr5Send1 => Sys2Proof.Machine.execReadAdsr5Send1 s
  | .readAdsr5Send2 => Sys2Proof.Machine.execReadAdsr5Send2 s
  | .readAdsr5State => Sys2Proof.Machine.execReadAdsr5State s
  | .readPadbBaseNote => Sys2Proof.Machine.execReadPadbBaseNote s
  | .readPadbHarm1 => Sys2Proof.Machine.execReadPadbHarm1 s
  | .readPadbHarm2 => Sys2Proof.Machine.execReadPadbHarm2 s
  | .readPadbHarm3 => Sys2Proof.Machine.execReadPadbHarm3 s
  | .readPadbHarm4 => Sys2Proof.Machine.execReadPadbHarm4 s
  | .readPadbHarm5 => Sys2Proof.Machine.execReadPadbHarm5 s
  | .readPadbHarm6 => Sys2Proof.Machine.execReadPadbHarm6 s
  | .readPadbHarm7 => Sys2Proof.Machine.execReadPadbHarm7 s
  | .readPadbHarm8 => Sys2Proof.Machine.execReadPadbHarm8 s
  | .readPadbHarm9 => Sys2Proof.Machine.execReadPadbHarm9 s
  | .readPadbHarm10 => Sys2Proof.Machine.execReadPadbHarm10 s
  | .readPadbShape => Sys2Proof.Machine.execReadPadbShape s
  | .readPadbHalfCut => Sys2Proof.Machine.execReadPadbHalfCut s
  | .readPadbBandwidth => Sys2Proof.Machine.execReadPadbBandwidth s
  | .readPadbDetuneSpread => Sys2Proof.Machine.execReadPadbDetuneSpread s
  | .readPadbQuality => Sys2Proof.Machine.execReadPadbQuality s
  | .readPadbBusy => Sys2Proof.Machine.execReadPadbBusy s
  | .readPadbGen => Sys2Proof.Machine.execReadPadbGen s
  | .readMsobBpA => Sys2Proof.Machine.execReadMsobBpA s
  | .readMsobBpB => Sys2Proof.Machine.execReadMsobBpB s
  | .readMsobBpC => Sys2Proof.Machine.execReadMsobBpC s
  | .readMsobBpD => Sys2Proof.Machine.execReadMsobBpD s
  | .readMsobBpE => Sys2Proof.Machine.execReadMsobBpE s
  | .readMsobBpF => Sys2Proof.Machine.execReadMsobBpF s
  | .readMsobSymmetry => Sys2Proof.Machine.execReadMsobSymmetry s
  | .readMsobBusy => Sys2Proof.Machine.execReadMsobBusy s
  | .readMsobGen => Sys2Proof.Machine.execReadMsobGen s

end Sys2Proof.Machine
end

