-- ==== Sys2Proof/Machine/Ports.lean ====
section
/-! DEFINITION. The command ports of the program's cores (30_encoding.md R250, 60_exceptions.md R717; log 9, log 11). -/

namespace Sys2Proof.Machine

/-- Put a core among the others, by rising core number. -/
def insertVoice (v : Voice) : List Voice → List Voice
  | [] => [v]
  | x :: xs => if v.core < x.core then v :: x :: xs else x :: insertVoice v xs

/-- The core with a number. -/
def findVoice (core : Nat) : List Voice → Option Voice
  | [] => none
  | x :: xs => if x.core = core then some x else findVoice core xs

/-- The others without the core of a number. -/
def dropVoice (core : Nat) : List Voice → List Voice
  | [] => []
  | x :: xs => if x.core = core then xs else x :: dropVoice core xs

/-- Make the core of a number the current one; its state and every other core's state stay as they are. -/
def focus (s : State) (core : Nat) : Option State :=
  if s.voice.core = core then some s
  else
    match findVoice core s.others with
    | none => none
    | some v => some { s with voice := v, others := insertVoice s.voice (dropVoice core s.others) }

/-- The host writes a command word to a core's port (30_encoding.md R250). -/
def hostWrites (s : State) (core : Nat) (w : Word) : State := { s with port := s.port ++ [(core, w)] }

/-- Power-on reset of a running program (70_reset_and_hazards.md R750, R751): nothing of the state survives but the requested
configuration. -/
def powerOnReset (_s : State) (req : Cfg) : State := State.resetWith req

end Sys2Proof.Machine
end

