-- ==== Sys2Proof/Machine/Step.lean ====
section
/-! DEFINITION. One step of one agent (20_memory.md R210, 40_voice.md R300, 60_exceptions.md R716). -/

namespace Sys2Proof.Machine

/-- The state in which a core executes the word at the head of the port: that core is the current one, the word is taken from the
port, and running builds are one voice step nearer their swap. `none` when no core has that number. -/
def voiceStart (s : State) (core : Nat) (rest : List (Nat × Word)) : Option State :=
  match focus s core with
  | none => none
  | some t => some { t with port := rest, program := builderCountdown t.program }

/-- A core executes one word: the meaning of the instruction it decodes to, or R259's effect where decode refuses it. -/
def execWord (w : Word) (s : State) : Host.Outcome State Fault Refusal :=
  match decode w with
  | .ok i => exec i s
  | .error _ => illegalWord s

/-- One step: a build whose latency has passed is completed first (the Table Builder's step); else the word at the head of the port
is executed by its core; with an empty port the machine waits (log 7, log 8, log 9). -/
def step (s : State) : Host.Outcome State Fault Refusal :=
  if padDue s.program then .next { padSwap s with out := .silent }
  else if msoDue s.program then .next { msoSwap s with out := .silent }
  else
    match s.port with
    | [] => .next { s with out := .silent }
    | (core, w) :: rest =>
      match voiceStart s core rest with
      | none => .next { s with port := rest, out := .silent }
      | some t => execWord w t

/-- The state with one command word at the head of the port of the current core, so that the next step executes it: a swap that is
due is put off by one voice step (log 9, log 24). -/
def State.withFetchWord (s : State) (nbits w : Nat) : State :=
  { s with port := (s.voice.core, BitVec.ofNat 32 (w % 2 ^ nbits)) :: s.port, program := builderDefer s.program }

end Sys2Proof.Machine
end

