-- ==== Sys2Proof/Machine/Assembler.lean ====
section
/-! DEFINITION. The assembler's lines and pseudo-instructions (30_encoding.md R266, R267; log 23). -/

namespace Sys2Proof.Machine

/-- The four registers of a modulation slot at index `i` (30_encoding.md R267, 10_state.md R53). -/
def asmSlot (name : String) (i : Nat) : List (String × Nat) :=
  [(name ++ "_LFO_SEL", i), (name ++ "_LFO_DEPTH", i + 1), (name ++ "_ENV_SEL", i + 2), (name ++ "_ENV_DEPTH", i + 3)]

/-- Register names of VOICE. -/
def asmVoice : List (String × Nat) := [("VOICE_ID", 0), ("VOICE_STATE", 1), ("STATUS", 2), ("FREQ_HZ", 3)]

/-- Register names of OSC1 and OSC2. -/
def asmOsc : List (String × Nat) :=
  [("ENABLE", 0), ("WAVEFORM", 1), ("PWM_PERCENT", 2), ("OCTAVE", 3), ("SEMITONE", 4), ("CENTS", 5), ("SEND_F1", 6),
   ("SEND_F2", 7), ("SYNC", 8), ("UNISON_MODE", 9), ("UNISON_DETUNE", 10), ("UNISON_DIST", 11), ("UNISON_LEVEL0", 12),
   ("UNISON_LEVEL1", 13), ("UNISON_LEVEL2", 14), ("UNISON_LEVEL3", 15), ("UNISON_LEVEL4", 16), ("UNISON_LEVEL5", 17),
   ("UNISON_LEVEL6", 18), ("UNISON_LEVEL7", 19), ("UNISON_LEVEL8", 20)]
  ++ asmSlot "FREQ" 0x18 ++ asmSlot "PWM" 0x1C ++ asmSlot "AMP" 0x20

/-- Register names of NOISE. -/
def asmNoise : List (String × Nat) :=
  [("ENABLE", 0), ("COLOR", 1), ("SEND_F1", 6), ("SEND_F2", 7)] ++ asmSlot "AMP" 0x20

/-- Register names of KS. -/
def asmKs : List (String × Nat) :=
  [("ENABLE", 0), ("EXCITATION", 1), ("VARIATION", 2), ("STRING_DAMP", 3), ("PLUCK_DAMP", 4), ("DAMP_MODE", 5),
   ("SEND_F1", 6), ("SEND_F2", 7), ("ON_DECAY", 8), ("OFF_DECAY", 9)]

/-- Register names of MSO. -/
def asmMso : List (String × Nat) :=
  [("ENABLE", 0), ("PWM_PERCENT", 2), ("OCTAVE", 3), ("SEMITONE", 4), ("CENTS", 5), ("SEND_F1", 6), ("SEND_F2", 7)]
  ++ asmSlot "FREQ" 0x18 ++ asmSlot "PWM" 0x1C ++ asmSlot "AMP" 0x20

/-- Register names of PAD. -/
def asmPad : List (String × Nat) :=
  [("ENABLE", 0), ("OCTAVE", 3), ("SEMITONE", 4), ("CENTS", 5), ("SEND_F1", 6), ("SEND_F2", 7)]
  ++ asmSlot "FREQ" 0x18 ++ asmSlot "AMP" 0x20

/-- Register names of FILT1 and FILT2. -/
def asmFilt : List (String × Nat) :=
  [("FREQ", 0), ("OCTAVE", 1), ("Q", 2), ("BAND", 3), ("KBD_TRACK", 4)] ++ asmSlot "FREQ" 0x18

/-- Register names of DIST1 and DIST2. -/
def asmDist : List (String × Nat) := [("ENABLE", 0), ("DRIVE", 1), ("RANGE", 2), ("BLEND", 3), ("AUTO_GAIN", 4)]

/-- Register names of AMP. -/
def asmAmp : List (String × Nat) :=
  [("GAIN1", 0), ("PAN1", 1), ("GAIN2", 2), ("PAN2", 3)] ++ asmSlot "PAN1" 0x18 ++ asmSlot "PAN2" 0x1C

/-- Register names of one LFO. -/
def asmLfo : List (String × Nat) := [("WAVEFORM", 0), ("RATE", 1), ("SYMMETRY", 2)]

/-- Register names of one envelope. -/
def asmAdsr : List (String × Nat) :=
  [("ATTACK", 0), ("DECAY", 1), ("SUSTAIN", 2), ("RELEASE", 3), ("SEND1", 4), ("SEND2", 5), ("STATE", 8)]

/-- Register names of PADB. -/
def asmPadb : List (String × Nat) :=
  [("BASE_NOTE", 0), ("HARM1", 1), ("HARM2", 2), ("HARM3", 3), ("HARM4", 4), ("HARM5", 5), ("HARM6", 6), ("HARM7", 7),
   ("HARM8", 8), ("HARM9", 9), ("HARM10", 10), ("SHAPE", 11), ("HALF_CUT", 12), ("BANDWIDTH", 13), ("DETUNE_SPREAD", 14),
   ("QUALITY", 15), ("BUSY", 16), ("GEN", 17)]

/-- Register names of MSOB. -/
def asmMsob : List (String × Nat) :=
  [("BP_A", 0), ("BP_B", 1), ("BP_C", 2), ("BP_D", 3), ("BP_E", 4), ("BP_F", 5), ("SYMMETRY", 6), ("BUSY", 16), ("GEN", 17)]

/-- The units with their first address and their registers (30_encoding.md R256). -/
def asmUnits : List (String × Nat × List (String × Nat)) :=
  [("VOICE", 0x000, asmVoice), ("OSC1", 0x100, asmOsc), ("OSC2", 0x200, asmOsc), ("NOISE", 0x300, asmNoise),
   ("KS", 0x400, asmKs), ("MSO", 0x500, asmMso), ("PAD", 0x600, asmPad), ("FILT1", 0x700, asmFilt), ("FILT2", 0x800, asmFilt),
   ("DIST1", 0x900, asmDist), ("DIST2", 0xA00, asmDist), ("AMP", 0xB00, asmAmp),
   ("LFO1", 0xC00, asmLfo), ("LFO2", 0xC10, asmLfo), ("LFO3", 0xC20, asmLfo), ("LFO4", 0xC30, asmLfo), ("LFO5", 0xC40, asmLfo),
   ("ADSR1", 0xD00, asmAdsr), ("ADSR2", 0xD10, asmAdsr), ("ADSR3", 0xD20, asmAdsr), ("ADSR4", 0xD30, asmAdsr),
   ("ADSR5", 0xD40, asmAdsr), ("PADB", 0xE00, asmPadb), ("MSOB", 0xF00, asmMsob)]

/-- A register as an assembly line names it: by unit and name, or by its address. -/
inductive AsmReg where
  | named (unit reg : String)
  | addr (a : PAddr)
  deriving DecidableEq, Repr

/-- The address of a register; `none` for a name that is not in 10_state.md R54 (an assembly error). -/
def asmAddr : AsmReg → Option PAddr
  | .addr a => some a
  | .named unit reg =>
    match asmUnits.lookup unit with
    | none => none
    | some (base, regs) =>
      match regs.lookup reg with
      | none => none
      | some i => some (BitVec.ofNat 12 (base + i))

/-- One line of assembly: the commands of 30_encoding.md R266 and the pseudo-instructions of R267. `setfreq` holds the frequency in
thousandths of a hertz, which a decimal with up to 3 fractional digits is. -/
inductive AsmLine where
  | nop
  | write (r : AsmReg) (v : Int)
  | read (r : AsmReg)
  | setfreq (mhz : Nat)
  | noteon
  | noteoff
  | tick
  | render
  | clear
  | buildpad
  | renderN (n : Nat)
  | block
  | blocks (n : Nat)
  | clrstatus
  | slot (unit slot : String) (lfo delay lfoDepth env envDepth : Int)
  deriving DecidableEq, Repr

/-- A WRITE: an operand outside -32768..32767 is an assembly error (R266). -/
def asmWrite (r : AsmReg) (v : Int) : Option Command :=
  match asmAddr r with
  | none => none
  | some a => if -32768 ≤ v ∧ v ≤ 32767 then some (.write a (BitVec.ofInt 16 v)) else none

/-- One block: a tick and `SUB` samples (R267). -/
def asmBlock (sub : Nat) : List Command := .tickControl :: List.replicate sub .renderSample

/-- The commands of a line, `sub` being the core's `SUB`; `none` is an assembly error. A frequency of 2^28 or more thousandths has no
encoding (log 23). -/
def assemble (sub : Nat) : AsmLine → Option (List Command)
  | .nop => some [.nop]
  | .write r v => (asmWrite r v).map fun c => [c]
  | .read r => (asmAddr r).map fun a => [.read a]
  | .setfreq mhz => if mhz < 2 ^ 28 then some [.setFrequency (BitVec.ofNat 28 mhz)] else none
  | .noteon => some [.noteOn]
  | .noteoff => some [.noteOff]
  | .tick => some [.tickControl]
  | .render => some [.renderSample]
  | .clear => some [.clearFilters]
  | .buildpad => some [.buildPad]
  | .renderN n => some (List.replicate n .renderSample)
  | .block => some (asmBlock sub)
  | .blocks n => some (List.flatten (List.replicate n (asmBlock sub)))
  | .clrstatus => (asmWrite (.named "VOICE" "STATUS") 31).map fun c => [c]
  | .slot unit slot lfo delay lfoDepth env envDepth =>
    match asmWrite (.named unit (slot ++ "_LFO_SEL")) (16 * delay + lfo), asmWrite (.named unit (slot ++ "_LFO_DEPTH")) lfoDepth,
      asmWrite (.named unit (slot ++ "_ENV_SEL")) env, asmWrite (.named unit (slot ++ "_ENV_DEPTH")) envDepth with
    | some w1, some w2, some w3, some w4 => some [w1, w2, w3, w4]
    | _, _, _, _ => none

/-- The words of a line. -/
def assembleWords (sub : Nat) (l : AsmLine) : Option (List Word) := (assemble sub l).map fun cs => cs.map Command.word

/-- The text of a line up to its comment, as tokens: blanks and commas separate (R266). -/
def asmTokens : List Char → List (List Char)
  | [] => [[]]
  | c :: cs =>
    if c = ';' then [[]]
    else if c = ' ' || c = ',' || c = '\t' then [] :: asmTokens cs
    else
      match asmTokens cs with
      | [] => [[c]]
      | t :: ts => (c :: t) :: ts

/-- The digit a character is, in a base up to 16. -/
def asmDigit (base : Nat) (c : Char) : Option Nat :=
  let d := if '0' ≤ c ∧ c ≤ '9' then c.toNat - 48
    else if 'A' ≤ c ∧ c ≤ 'F' then c.toNat - 55
    else if 'a' ≤ c ∧ c ≤ 'f' then c.toNat - 87
    else base
  if d < base then some d else none

/-- A natural number from its digits after `acc`. -/
def asmDigits (base : Nat) : Nat → List Char → Option Nat
  | acc, [] => some acc
  | acc, c :: cs =>
    match asmDigit base c with
    | none => none
    | some d => asmDigits base (base * acc + d) cs

/-- A natural number: decimal, or hexadecimal after `0x`. -/
def asmNat : List Char → Option Nat
  | [] => none
  | '0' :: 'x' :: c :: cs => asmDigits 16 0 (c :: cs)
  | c :: cs => asmDigits 10 0 (c :: cs)

/-- An integer. -/
def asmInt : List Char → Option Int
  | '-' :: cs => (asmNat cs).map fun n => -(n : Int)
  | cs => (asmNat cs).map fun n => (n : Int)

/-- The characters before and after the first dot. -/
def asmSplitDot : List Char → List Char × Option (List Char)
  | [] => ([], none)
  | c :: cs => if c = '.' then ([], some cs) else (c :: (asmSplitDot cs).1, (asmSplitDot cs).2)

/-- A decimal with up to 3 fractional digits, in thousandths. -/
def asmMilli (cs : List Char) : Option Nat :=
  match asmSplitDot cs with
  | ([], _) => none
  | (w, none) => (asmDigits 10 0 w).map fun n => 1000 * n
  | (w, some f) => if f.length ≤ 3 then asmDigits 10 0 (w ++ f ++ List.replicate (3 - f.length) '0') else none

/-- A register operand. -/
def asmReg (cs : List Char) : Option AsmReg :=
  match cs with
  | '0' :: 'x' :: hs =>
    match asmNat ('0' :: 'x' :: hs) with
    | some n => if n < 4096 then some (.addr (BitVec.ofNat 12 n)) else none
    | none => none
  | _ =>
    match asmSplitDot cs with
    | (u, some r) => some (.named (String.ofList u) (String.ofList r))
    | (_, none) => none

/-- The operands of SLOT after the slot's name. -/
def asmSlotLine (name : List Char) (xs : List (Option Int)) : Option AsmLine :=
  match asmSplitDot name, xs with
  | (u, some s), [some lfo, some delay, some lfoDepth, some env, some envDepth] =>
    some (.slot (String.ofList u) (String.ofList s) lfo delay lfoDepth env envDepth)
  | _, _ => none

/-- A line from its tokens: the first names the command (R266, R267). -/
def asmParse (op : String) (args : List (List Char)) : Option AsmLine :=
  match args with
  | [] =>
    [("NOP", AsmLine.nop), ("NOTEON", .noteon), ("NOTEOFF", .noteoff), ("TICK", .tick), ("RENDER", .render), ("CLEAR", .clear),
     ("BUILDPAD", .buildpad), ("BLOCK", .block), ("CLRSTATUS", .clrstatus)].lookup op
  | [x] =>
    if op = "READ" then (asmReg x).map .read
    else if op = "SETFREQ" then (asmMilli x).map .setfreq
    else if op = "RENDER" then (asmNat x).map .renderN
    else if op = "BLOCKS" then (asmNat x).map .blocks
    else none
  | [x, y] =>
    if op = "WRITE" then
      match asmReg x, asmInt y with
      | some r, some v => some (.write r v)
      | _, _ => none
    else none
  | x :: xs => if op = "SLOT" then asmSlotLine x (xs.map asmInt) else none

/-- The words of a line of text: an empty line has none, `none` is an assembly error (R266). -/
def assembleText (sub : Nat) (line : List Char) : Option (List Word) :=
  match (asmTokens line).filter fun t => !t.isEmpty with
  | [] => some []
  | op :: args =>
    match asmParse (String.ofList op) args with
    | none => none
    | some l => assembleWords sub l

end Sys2Proof.Machine
end

