-- ==== Sys2Proof/Machine/Link.lean ====
section
/-! DEFINITION. Words and samples on a byte-serial link to the host (20_memory.md R202; log 23). -/

namespace Sys2Proof.Machine

/-- The four bytes of a command word, a response word or a binary32 sample, the least significant byte first. -/
def linkBytes (w : Word) : List (BitVec 8) :=
  [w.extractLsb' 0 8, w.extractLsb' 8 8, w.extractLsb' 16 8, w.extractLsb' 24 8]

/-- The word four bytes stand for. -/
def linkWord (b0 b1 b2 b3 : BitVec 8) : Word := b3 ++ b2 ++ b1 ++ b0

/-- The whole words of a byte stream; the bytes of a word not complete yet are left over. -/
def linkReceive : List (BitVec 8) → List Word × List (BitVec 8)
  | b0 :: b1 :: b2 :: b3 :: rest => (linkWord b0 b1 b2 b3 :: (linkReceive rest).1, (linkReceive rest).2)
  | left => ([], left)

/-- The bytes of a stereo pair: L, then R (30_encoding.md R264). -/
def linkPair (lr : F32 × F32) : List (BitVec 8) := linkBytes lr.1 ++ linkBytes lr.2

end Sys2Proof.Machine
end

