-- ==== Sys2Proof/Safety.lean ====
section
/-! DEFINITION. What a good state and a safe step are, in the terms the statements use. -/

namespace Sys2Proof.Machine

/-- `PAD_LEN_SET` (00_scope.md R7). -/
def padLens : List Nat := [32768, 65536, 131072, 262144, 524288, 1048576]

/-- A listed parameter register is a read-write register and holds a value of its domain (10_state.md R52). -/
def cellOk (L : Nat) (e : Nat × RegVal) : Bool :=
  match regInfo L (BitVec.ofNat 12 e.1) with
  | some r => decide (r.access = .rw) && inDomain L r.dom e.2.toInt
  | none => false

/-- Every listed index lies in `lo..hi-1`. -/
def storeWithin {α : Type} (lo hi : Nat) (m : List (Nat × α)) : Bool := m.all fun e => decide (lo ≤ e.1) && decide (e.1 < hi)

/-- The stores of one voice are in canonical form. -/
def voiceMemWf (L : Nat) (v : Voice) : Bool := storeWf (regReset L) v.regs && storeWf (fun _ => 0) v.ks.buf

/-- The stores that the voices share are in canonical form. -/
def programMemWf (c : Cfg) (p : Program) : Bool :=
  storeWf (regReset c.msoLen) p.regs && storeWf (fun _ => 0) p.pad0.elems && storeWf (fun _ => 0) p.pad1.elems
    && storeWf (msoBaseElem (numOf c.num) c.msoLen) p.msom0 && storeWf (msoBaseElem (numOf c.num) c.msoLen) p.msom1
    && storeWf (msoBaseElem (numOf c.num) c.msoLen) p.msoBase

/-- The three storage spaces of 20_memory.md R200 are in canonical form (log 14). -/
def Memory.wf (s : State) : Bool :=
  voiceMemWf s.cfg.msoLen s.voice && s.others.all (voiceMemWf s.cfg.msoLen) && programMemWf s.cfg s.program

/-- An Idle envelope has level 0 (41_adsr_lfo.md R409). -/
def adsrIdleZero (x : Adsr) : Bool := decide (x.state ≠ .idle) || decide (x.level = 0)

/-- What holds of every voice: its registers are read-write registers of units 0x0 to 0xD inside their domains (10_state.md R52,
20_memory.md R201); the delay line, its length and its position are in range (R65); the length the PAD reader saw is a PAD length
(R67); the flags are in one of the four states of the life cycle, in each of which `in_use` equals `active` (40_voice.md R335); an
Idle envelope has level 0; the core is halted exactly when the configuration is illegal (R81). -/
def voiceOk (c : Cfg) (v : Voice) : Bool :=
  v.regs.all (cellOk c.msoLen) && storeWithin 0 0xE00 v.regs && storeWithin 0 ksCap v.ks.buf
    && decide (2 ≤ v.ks.len) && decide (v.ks.len ≤ ksCap) && decide (v.ks.pos < v.ks.len)
    && padLens.contains v.padLenSeen && decide (v.inUse = v.active)
    && adsrIdleZero v.adsr.e1 && adsrIdleZero v.adsr.e2 && adsrIdleZero v.adsr.e3 && adsrIdleZero v.adsr.e4
    && adsrIdleZero v.adsr.e5 && decide (v.halted = !cfgLegal c)

/-- A PAD bank: a length of `PAD_LEN_SET` and no element outside it (10_state.md R71). -/
def padBankOk (b : PadBank) : Bool := padLens.contains b.len && storeWithin 0 b.len b.elems

/-- What holds of the shared state: its registers are read-write registers of units 0xE and 0xF inside their domains; the tables
have their lengths (10_state.md R71); `MSOBASE` is as reset left it (45_mso.md R576); a request is pending only while a build runs
(45_mso.md R577, 46_pad.md R611); no build runs on a halted program (60_exceptions.md R706); the PAD snapshot's QUALITY is one of
0..5 while a build runs. -/
def programOk (c : Cfg) (p : Program) : Bool :=
  p.regs.all (cellOk c.msoLen) && storeWithin 0xE00 0x1000 p.regs && padBankOk p.pad0 && padBankOk p.pad1
    && storeWithin 0 c.msoLen p.msom0 && storeWithin 0 c.msoLen p.msom1 && decide (p.msoBase = [])
    && (!p.padPending || p.padBusy) && (!p.msoPending || p.msoBusy) && (!p.padBusy || cfgLegal c) && (!p.msoBusy || cfgLegal c)
    && (!p.padBusy || decide (p.padSnap.quality.toNat ≤ 5))

/-- The other cores stand by rising number, all of them above `lo`. -/
def coresRise : Nat → List Voice → Bool
  | _, [] => true
  | lo, v :: vs => decide (lo ≤ v.core) && coresRise (v.core + 1) vs

/-- Every core has a number of its own, and the other cores stand in order. -/
def coresOk (s : State) : Bool := coresRise 0 s.others && s.others.all fun v => decide (v.core ≠ s.voice.core)

/-- `FS` and `SUB` are legal after the fallback of reset (00_scope.md R7, R8). -/
def cfgRates (c : Cfg) : Bool :=
  (decide (c.fs = 44100) || decide (c.fs = 48000)) && decide (1 ≤ c.sub) && decide (c.sub ≤ 256)

/-- The invariant of the machine. -/
structure StateInv (s : State) : Prop where
  mem : Memory.wf s = true
  rates : cfgRates s.cfg = true
  voice : voiceOk s.cfg s.voice = true
  others : s.others.all (voiceOk s.cfg) = true
  program : programOk s.cfg s.program = true
  cores : coresOk s = true

/-- The machine takes a next step: no fault and no refusal. -/
def Safe (s : State) : Prop := ∃ t, step s = .next t

/-- What a step delivered. -/
def outOf : Host.Outcome State Fault Refusal → Option PortOut
  | .next t => some t.out
  | .fault _ => none
  | .refused _ => none

/-- The sample pair a step delivered. -/
def audioOf (r : Host.Outcome State Fault Refusal) : Option (F32 × F32) := (outOf r).bind PortOut.audio

/-- Two program states with the same tables and bank selects. -/
def sameTables (p q : Program) : Prop :=
  q.pad0 = p.pad0 ∧ q.pad1 = p.pad1 ∧ q.padSel = p.padSel ∧ q.padGen = p.padGen ∧ q.msom0 = p.msom0 ∧ q.msom1 = p.msom1
    ∧ q.msoBase = p.msoBase ∧ q.msoSel = p.msoSel ∧ q.msoGen = p.msoGen

/-- An outcome that leaves everything but the outputs as it was. -/
def answered (s : State) (rc : Rc) (data : BitVec 16) : Host.Outcome State Fault Refusal :=
  .next { s with out := ⟨some (responseWord rc data), none, none⟩ }

/-- An outcome that raises a STATUS bit, answers ERR_CMD with data 0 and leaves everything else as it was (60_exceptions.md R701,
R703). -/
def turnedAway (s : State) (bit : BitVec 5) : Host.Outcome State Fault Refusal :=
  .next { s with
    voice := { s.voice with status := s.voice.status ||| bit }
    out := ⟨some (responseWord .errCmd 0), none, none⟩ }

/-- `t` differs from `s` at most in parameter registers and outputs: every status bit, every quantity of the datapath, every table,
the builder, the configuration, every other core and the command port are as before. -/
def onlyRegs (s t : State) : Prop :=
  t = { s with
    voice := { s.voice with regs := t.voice.regs }
    program := { s.program with regs := t.program.regs }
    out := t.out }

/-- `t` differs from `s` at most in parameter registers, the MSO builder's request and outputs. -/
def onlyRegsMso (s t : State) : Prop :=
  t = { s with
    voice := { s.voice with regs := t.voice.regs }
    program := { s.program with
      regs := t.program.regs, msoBusy := t.program.msoBusy, msoPending := t.program.msoPending, msoSnap := t.program.msoSnap
      msoWait := t.program.msoWait, builds := t.program.builds }
    out := t.out }

/-- `t` differs from `s` at most in the quantities a sample advances (generators, filters, the reader positions), STATUS and
outputs. -/
def onlyRendered (s t : State) : Prop :=
  t = { s with
    voice := { s.voice with
      osc1 := t.voice.osc1, osc2 := t.voice.osc2, noise := t.voice.noise, ks := t.voice.ks, msoIdx := t.voice.msoIdx
      padPos := t.voice.padPos, padLenSeen := t.voice.padLenSeen, filt1 := t.voice.filt1, filt2 := t.voice.filt2
      status := t.voice.status }
    out := t.out }

/-- The addresses that read as a view of other state, not as a stored register (10_state.md R55, R60; 40_voice.md R304; 45_mso.md
R577; 46_pad.md R611). -/
def viewAddr (a : PAddr) : Bool :=
  [0x000#12, 0x001#12, 0x002#12, 0x003#12, 0xD08#12, 0xD18#12, 0xD28#12, 0xD38#12, 0xD48#12, 0xE10#12, 0xE11#12, 0xF10#12,
    0xF11#12].contains a

end Sys2Proof.Machine
end

