-- ==== Sys2Proof/Certificates/Slice0/Obligations.lean ====
section
/-! DEFINITION. The statements about the machine, for the provers. `s` is the state before, `t` the state after; "running" means that
the core is not halted. -/

section

open Sys2Proof Sys2Proof.Machine

/-! ## Encoding -/

/-- Every well-formed instruction is read back from its word (30_encoding.md R251 to R256). -/
def Obligations.DecodeOfEncode : Prop := ∀ i : Instr, i.wf = true → decode (encode i) = .ok i

/-- A word stands for at most one instruction (30_encoding.md R251 to R256), and that instruction is well formed: which constructor
stands for a word that has both a register's row and a WRITE_PARAM or READ_PARAM row is the model's choice (log 15). -/
def Obligations.EncodeOfDecode : Prop := ∀ (w : Word) (i : Instr), decode w = .ok i → i.wf = true ∧ encode i = w

/-- 30_encoding.md R268: its encoding examples, by the assembler's lines, the words and the decoder. -/
def Obligations.EncodingExamplesDecode : Prop :=
  (assembleText 8 "NOP".toList = some [0x00000000] ∧ decode 0x00000000 = .ok .nop)
  ∧ (assembleText 8 "WRITE OSC1.ENABLE, 1".toList = some [0x11000001] ∧ decode 0x11000001 = .ok (.writeOsc1Enable 1))
  ∧ (assembleText 8 "WRITE OSC1.OCTAVE, -1".toList = some [0x1103FFFF] ∧ decode 0x1103FFFF = .ok (.writeOsc1Octave (-1)))
  ∧ (assembleText 8 "WRITE LFO3.RATE, 75".toList = some [0x1C21004B] ∧ decode 0x1C21004B = .ok (.writeLfo3Rate 75))
  ∧ (assembleText 8 "READ ADSR1.STATE".toList = some [0x2D080000] ∧ decode 0x2D080000 = .ok .readAdsr1State)
  ∧ (assembleText 8 "SETFREQ 440".toList = some [0x3006B6C0] ∧ decode 0x3006B6C0 = .ok (.setFrequency 440000))
  ∧ (assembleText 8 "NOTEON".toList = some [0x40000000] ∧ decode 0x40000000 = .ok .noteOn)
  ∧ (assembleText 8 "NOTEOFF".toList = some [0x50000000] ∧ decode 0x50000000 = .ok .noteOff)
  ∧ (assembleText 8 "TICK".toList = some [0x60000000] ∧ decode 0x60000000 = .ok .tickControl)
  ∧ (assembleText 8 "RENDER".toList = some [0x70000000] ∧ decode 0x70000000 = .ok .renderSample)
  ∧ (assembleText 8 "CLEAR".toList = some [0x80000000] ∧ decode 0x80000000 = .ok .clearFilters)
  ∧ (assembleText 8 "BUILDPAD".toList = some [0x90000000] ∧ decode 0x90000000 = .ok .buildPad)
  ∧ decode 0x40000001 = .error (.reservedBits 4)

/-- 30_encoding.md R259: a word with opcode 0xA..0xF or with a reserved-zero bit set changes nothing but STATUS.CMD_RESERVED and
answers ERR_CMD with data 0; every other word is a command's. -/
def Obligations.IllegalWordsAreTurnedAway : Prop :=
  ∀ w : Word,
    let opc := (w.extractLsb' 28 4).toNat
    let illegal := 10 ≤ opc ∨ (opc ∈ [0, 4, 5, 6, 7, 8, 9] ∧ w.extractLsb' 0 28 ≠ 0) ∨ (opc = 2 ∧ w.extractLsb' 0 16 ≠ 0)
    (illegal → ∀ s : State, s.voice.halted = false → execWord w s = turnedAway s 0x01)
    ∧ (¬illegal → ∃ i, decode w = .ok i ∧ ∀ opc x, i.command ≠ .illegal opc x)

/-- The six rows of reserved opcodes: their own effect is to be turned away (30_encoding.md R259, 40_voice.md R311). -/
def Obligations.ReservedOpcodesComplete : Prop :=
  ∀ (i : Instr) (opc : Fin 6) (x : BitVec 28) (s : State), i.command = .illegal opc x → s.voice.halted = false →
    exec i s = turnedAway s 0x01

/-! ## Steps -/

/-- A step with no swap due runs the instruction that the word at the head of the current core's port decodes to; around it the word
leaves the port and the running builds come one voice step nearer their swap (log 7, log 9). -/
def Obligations.StepRunsTheDecodedInstruction : Prop :=
  ∀ (s : State) (w : Word) (i : Instr) (rest : List (Nat × Word)),
    padDue s.program = false → msoDue s.program = false → s.port = (s.voice.core, w) :: rest → decode w = .ok i →
    step s = exec i { s with port := rest, program := builderCountdown s.program }

/-- The same for a word on the port of another core of the program: that core becomes the current one, and no core's state is lost
or changed by that (60_exceptions.md R717; log 9, log 11). -/
def Obligations.StepRunsOnTheAddressedCore : Prop :=
  ∀ (s : State) (core : Nat) (v : Voice) (w : Word) (i : Instr) (rest : List (Nat × Word)),
    padDue s.program = false → msoDue s.program = false → s.port = (core, w) :: rest → decode w = .ok i →
    s.voice.core ≠ core → findVoice core s.others = some v →
    ∃ others, step s = exec i { s with voice := v, others := others, port := rest, program := builderCountdown s.program }
      ∧ v.core = core ∧ List.Perm (v :: others) (s.voice :: s.others)

/-- No instruction touches another core, the configuration, the command port, or the identity and halt flag of its own core
(60_exceptions.md R717, R706; 00_scope.md R7). -/
def Obligations.OtherCoresAreUntouched : Prop :=
  ∀ (i : Instr) (s t : State), exec i s = .next t →
    t.others = s.others ∧ t.cfg = s.cfg ∧ t.port = s.port ∧ t.voice.core = s.voice.core ∧ t.voice.voiceId = s.voice.voiceId
      ∧ t.voice.halted = s.voice.halted

/-- Every register row of the opcode table does what WRITE_PARAM or READ_PARAM of its address does (40_voice.md R302, R303). -/
def Obligations.RowsRunTheirCommand : Prop :=
  ∀ (i : Instr) (s : State) (a : PAddr) (v : RegVal),
    (i.command = .write a v → exec i s = exec (.writeParam a v) s) ∧ (i.command = .read a → exec i s = exec (.readParam a) s)

/-- 60_exceptions.md R706: a core is halted exactly when a check of 00_scope.md R8 failed at reset, after the fallback of FS; then every
word, legal or not, changes no state and answers ERR_CONFIG, and a RENDER_SAMPLE word emits silence; no step ends the state. The
checks of R8 are those of MSO_LEN and of the two frequency bounds; that a bound with denominator 0 fails them is the model's choice
(log 21), and so is that nothing is checked of the list of identities (log 11). -/
def Obligations.HaltedCoreDoesNothing : Prop :=
  (∀ (req : Cfg) (v : Voice), v ∈ (State.resetWith req).voice :: (State.resetWith req).others →
    (v.halted = true ↔ cfgLegal (State.resetWith req).cfg = false)
    ∧ (v.halted = false ↔ (∃ k, 6 ≤ k ∧ k ≤ 15 ∧ req.msoLen = 2 ^ k) ∧ req.oscMin.den ≠ 0 ∧ req.oscMax.den ≠ 0
        ∧ 2 * req.oscMax.num < (if req.fs = 48000 then 48000 else 44100) * req.oscMax.den
        ∧ 0 < req.oscMin.num ∧ req.oscMin.num * req.oscMax.den < req.oscMax.num * req.oscMin.den))
  ∧ (∀ (i : Instr) (s : State), s.voice.halted = true →
      exec i s = .next { s with
        out := ⟨some (responseWord .errConfig 0), if i = .renderSample then some (0, 0) else none, none⟩ })
  ∧ (∀ (w : Word) (s : State), s.voice.halted = true →
      execWord w s = .next { s with
        out := ⟨some (responseWord .errConfig 0), if w = 0x70000000 then some (0, 0) else none, none⟩ })
  ∧ ∀ s t : State, step s = .next t → ∀ v ∈ s.voice :: s.others, v.halted = true →
      ∃ v' ∈ t.voice :: t.others, v'.core = v.core ∧ v'.halted = true

/-! ## NOP, parameter writes and reads -/

/-- 40_voice.md R301: NOP answers OK; every other word with opcode 0 is illegal. -/
def Obligations.NopAnswersOk : Prop :=
  ∀ s : State, s.voice.halted = false →
    decode 0x00000000 = .ok .nop ∧ exec .nop s = answered s .ok 0 ∧ responseWord .ok 0 = 0x00000000
      ∧ ∀ w : Word, w.extractLsb' 28 4 = 0 → w ≠ 0 → execWord w s = turnedAway s 0x01

/-- A write to a read-write register of units 0x1 to 0xE completes: the clamped value is stored where the quirk sends it, every other
register and everything else stays, and the answer says whether the value was clamped (40_voice.md R302). -/
def Obligations.WriteStoresTheClampedValue : Prop :=
  ∀ (i : Instr) (a : PAddr) (v : RegVal) (r : RegInfo) (s : State),
    s.voice.halted = false → i.command = .write a v → regInfo s.cfg.msoLen a = some r → r.access = .rw → unitOf a ≠ 0xF →
    let target := (quirkTarget s.cfg.quirkMsoSetters a).toNat
    let w := domainClamp s.cfg.msoLen r.dom v
    ∃ t, exec i s = .next t ∧ onlyRegs s t ∧ regAt t target = BitVec.ofInt 16 w ∧ (∀ k, k ≠ target → regAt t k = regAt s k)
      ∧ t.out = ⟨some (responseWord (if w = v.toInt then .ok else .okClamped) 0), none, none⟩

/-- A write to a read-write register of unit MSOB completes: the clamped value is stored and an MSO build is requested, which starts
from the registers as they are now, or waits for the running build (40_voice.md R302, 45_mso.md R577). -/
def Obligations.MsobWriteRequestsABuild : Prop :=
  ∀ (i : Instr) (a : PAddr) (v : RegVal) (r : RegInfo) (s : State),
    s.voice.halted = false → i.command = .write a v → regInfo s.cfg.msoLen a = some r → r.access = .rw → unitOf a = 0xF →
    let w := domainClamp s.cfg.msoLen r.dom v
    ∃ t, exec i s = .next t ∧ onlyRegsMso s t ∧ regAt t a.toNat = BitVec.ofInt 16 w
      ∧ (∀ k, k ≠ a.toNat → regAt t k = regAt s k)
      ∧ t.out = ⟨some (responseWord (if w = v.toInt then .ok else .okClamped) 0), none, none⟩
      ∧ t.program.msoBusy = true
      ∧ (s.program.msoBusy = true → t.program.msoPending = true ∧ t.program.msoSnap = s.program.msoSnap
          ∧ t.program.msoWait = s.program.msoWait ∧ t.program.builds = s.program.builds)
      ∧ (s.program.msoBusy = false → t.program.msoPending = s.program.msoPending
          ∧ t.program.msoSnap = ⟨regAt t 0xF00, regAt t 0xF01, regAt t 0xF02, regAt t 0xF03, regAt t 0xF04, regAt t 0xF05,
              regAt t 0xF06⟩)

/-- A write to STATUS completes: every bit written as 1 is cleared and nothing else changes (40_voice.md R302, 10_state.md R60). -/
def Obligations.StatusWriteClearsBits : Prop :=
  ∀ (i : Instr) (v : RegVal) (s : State), s.voice.halted = false → i.command = .write 0x002 v →
    exec i s = .next { s with
      voice := { s.voice with status := s.voice.status &&& ~~~v.extractLsb' 0 5 }
      out := ⟨some (responseWord .ok 0), none, none⟩ }

/-- A write or read of an unmapped address raises BAD_ADDR, a write to a read-only register raises RO_WRITE; the answer is ERR_CMD
with data 0 and nothing else changes (60_exceptions.md R701, R703; 30_encoding.md R258). -/
def Obligations.BadAddressesAreTurnedAway : Prop :=
  ∀ (i : Instr) (a : PAddr) (s : State), s.voice.halted = false →
    (regInfo s.cfg.msoLen a = none → i.command = .read a → exec i s = turnedAway s 0x02)
    ∧ (∀ v, regInfo s.cfg.msoLen a = none → i.command = .write a v → exec i s = turnedAway s 0x02)
    ∧ ∀ v r, regInfo s.cfg.msoLen a = some r → r.access = .ro → i.command = .write a v → exec i s = turnedAway s 0x04

/-- A read of a mapped address completes and changes nothing: it answers the register's value, or its view (40_voice.md R303). -/
def Obligations.ReadAnswersTheRegister : Prop :=
  ∀ (i : Instr) (a : PAddr) (r : RegInfo) (s : State), s.voice.halted = false → i.command = .read a →
    regInfo s.cfg.msoLen a = some r →
    exec i s = answered s .ok (if viewAddr a then readView s a else regAt s a.toNat)

/-- The read-only views and STATUS (10_state.md R55, R60; 40_voice.md R304; 41_adsr_lfo.md R400; 45_mso.md R577; 46_pad.md R611). -/
def Obligations.ViewsShowTheState : Prop :=
  ∀ s : State, s.voice.halted = false →
    let code := fun x : AdsrState =>
      (match x with
        | .idle => 0
        | .attack => 1
        | .decay => 2
        | .sustain => 3
        | .release => 4
        | .forceRelease => 5
        | .offRelease => 6 : BitVec 16)
    exec .readVoiceVoiceId s = answered s .ok (0#8 ++ s.voice.voiceId)
    ∧ exec .readVoiceVoiceState s
        = answered s .ok (0#13 ++ BitVec.ofBool s.voice.waits ++ BitVec.ofBool s.voice.active ++ BitVec.ofBool s.voice.inUse)
    ∧ exec .readVoiceStatus s = answered s .ok (0#11 ++ s.voice.status)
    ∧ exec .readVoiceFreqHz s = answered s .ok (BitVec.ofInt 16 (min (numFloor s.num s.voice.voiceFreq) 32767))
    ∧ exec .readAdsr1State s = answered s .ok (code s.voice.adsr.e1.state)
    ∧ exec .readAdsr2State s = answered s .ok (code s.voice.adsr.e2.state)
    ∧ exec .readAdsr3State s = answered s .ok (code s.voice.adsr.e3.state)
    ∧ exec .readAdsr4State s = answered s .ok (code s.voice.adsr.e4.state)
    ∧ exec .readAdsr5State s = answered s .ok (code s.voice.adsr.e5.state)
    ∧ exec .readPadbBusy s = answered s .ok (0#14 ++ BitVec.ofBool s.program.padPending ++ BitVec.ofBool s.program.padBusy)
    ∧ exec .readPadbGen s = answered s .ok s.program.padGen
    ∧ exec .readMsobBusy s = answered s .ok (0#14 ++ BitVec.ofBool s.program.msoPending ++ BitVec.ofBool s.program.msoBusy)
    ∧ exec .readMsobGen s = answered s .ok s.program.msoGen

/-- A read after a write of the same register, where no quirk sends the write elsewhere, answers the clamped value (40_voice.md
R303). -/
def Obligations.ReadAfterWriteGivesTheClampedValue : Prop :=
  ∀ (i j : Instr) (a : PAddr) (v : RegVal) (r : RegInfo) (s : State),
    s.voice.halted = false → i.command = .write a v → j.command = .read a → regInfo s.cfg.msoLen a = some r → r.access = .rw →
    quirkTarget s.cfg.quirkMsoSetters a = a →
    ∃ t u, exec i s = .next t ∧ exec j t = .next u
      ∧ u.out.response = some (responseWord .ok (BitVec.ofInt 16 (domainClamp s.cfg.msoLen r.dom v)))

/-- The value a write stores lies in the register's domain, and a value of the domain is stored as it is (10_state.md R52). -/
def Obligations.StoredValuesLieInTheDomain : Prop :=
  ∀ (L : Nat) (a : PAddr) (r : RegInfo) (v : RegVal), msoLens.contains L = true → regInfo L a = some r → r.access = .rw →
    let w := BitVec.ofInt 16 (domainClamp L r.dom v)
    inDomain L r.dom w.toInt = true ∧ (inDomain L r.dom v.toInt = true → w = v)

/-- 40_voice.md R314: the clamp of an LFO selector, as bits: a negative value gives 0; else the index is at most 5, the delay code at
most 4, and every other bit of the stored value is 0. -/
def Obligations.LfoSelectorClamp : Prop :=
  ∀ (L : Nat) (v : RegVal),
    let w := BitVec.ofInt 16 (domainClamp L .lfoSel v)
    (v.msb = true → w = 0)
    ∧ (v.msb = false → (w.extractLsb' 0 3).toNat = min (v.extractLsb' 0 3).toNat 5
        ∧ (w.extractLsb' 4 3).toNat = min (v.extractLsb' 4 3).toNat 4)
    ∧ w.getLsbD 3 = false ∧ w.extractLsb' 7 9 = 0

/-- 40_voice.md R336: with the quirk a write to MSO.PWM_ENV_SEL changes MSO.FREQ_ENV_SEL and one to MSO.PWM_ENV_DEPTH changes
MSO.PWM_LFO_DEPTH, and no other register; without it every write goes to its own address. -/
def Obligations.MsoSetterQuirk : Prop :=
  (∀ (s : State) (v : RegVal), s.voice.halted = false → s.cfg.quirkMsoSetters = true →
    (∃ t, exec (.writeMsoPwmEnvSel v) s = .next t ∧ regAt t 0x51A = BitVec.ofInt 16 (intClamp v.toInt 0 5)
        ∧ ∀ k, k ≠ 0x51A → regAt t k = regAt s k)
    ∧ ∃ t, exec (.writeMsoPwmEnvDepth v) s = .next t ∧ regAt t 0x51D = BitVec.ofInt 16 (intClamp v.toInt 0 100)
        ∧ ∀ k, k ≠ 0x51D → regAt t k = regAt s k)
  ∧ ∀ (i : Instr) (a : PAddr) (v : RegVal) (r : RegInfo) (s : State), s.voice.halted = false → s.cfg.quirkMsoSetters = false →
      i.command = .write a v → regInfo s.cfg.msoLen a = some r → r.access = .rw →
      ∃ t, exec i s = .next t ∧ regAt t a.toNat = BitVec.ofInt 16 (domainClamp s.cfg.msoLen r.dom v)
        ∧ ∀ k, k ≠ a.toNat → regAt t k = regAt s k

/-! ## Voice commands -/

/-- SET_FREQUENCY completes: the requested frequency, or the bound it lies beyond, becomes the voice frequency, and nothing else
changes; a request on a bound is not clamped (40_voice.md R304; the comparison is exact and the stored value is rounded by `NUM`,
log 6). -/
def Obligations.SetFrequencyClamps : Prop :=
  ∀ (s : State) (mhz : BitVec 28), s.voice.halted = false → cfgLegal s.cfg = true →
    let lo := s.cfg.oscMin
    let hi := s.cfg.oscMax
    let stored := fun (x : Ratio) (rc : Rc) => Host.Outcome.next (φ := Fault) (ρ := Refusal) { s with
      voice := { s.voice with voiceFreq := s.num.ofRatio x }, out := ⟨some (responseWord rc 0), none, none⟩ }
    ((mhz.toNat : Int) * lo.den < lo.num * 1000 → exec (.setFrequency mhz) s = stored lo .okClamped)
    ∧ (hi.num * 1000 < (mhz.toNat : Int) * hi.den → exec (.setFrequency mhz) s = stored hi .okClamped)
    ∧ (lo.num * 1000 ≤ (mhz.toNat : Int) * lo.den → (mhz.toNat : Int) * hi.den ≤ hi.num * 1000 →
        exec (.setFrequency mhz) s = stored ⟨mhz.toNat, 1000⟩ .ok)

/-- NOTE_ON completes: the flags are those of ACTIVE, only envelopes and string change besides, the answer is OK (40_voice.md R305),
and every envelope moves as 41_adsr_lfo.md R407 says. -/
def Obligations.NoteOnStartsTheEnvelopes : Prop :=
  ∀ s : State, s.voice.halted = false →
    ∃ t, exec .noteOn s = .next t
      ∧ t = { s with
          voice := { s.voice with inUse := true, active := true, waits := false, adsr := t.voice.adsr, ks := t.voice.ks }
          out := ⟨some (responseWord .ok 0), none, none⟩ }
      ∧ ∀ k, 1 ≤ k → k ≤ 5 →
          let x := fiveGet s.voice.adsr k
          let y := fiveGet t.voice.adsr k
          y.held = true ∧ y.elapsed = 0 ∧ y.level = x.level
          ∧ (x.state = .idle → y.state = .attack ∧ y.forceStep = x.forceStep)
          ∧ (x.state = .forceRelease → y.state = .forceRelease ∧ y.forceStep = x.forceStep)
          ∧ (x.state ≠ .idle → x.state ≠ .forceRelease →
              y.state = .forceRelease ∧ y.forceStep = s.num.mul x.level (s.num.ofRatio ⟨1, 256⟩))

/-- NOTE_ON plucks the string (44_karplus.md R531 to R535): the loop length follows the voice frequency; the line holds the damped
excitation from index 0 and keeps the elements above it; the position is 0, the string is held, the energy is the mean square. `x i`
is the PRNG before index `i`, `n i` the noise drawn there, `e i` the excitation, `v i` its variation, `d i` the damped value. Products
and sums are taken in the order written (log 4). -/
def Obligations.NoteOnPlucksTheString : Prop :=
  ∀ s : State, s.voice.halted = false →
    ∃ t, exec .noteOn s = .next t ∧
      let N := s.num
      let pct := fun (k : Nat) => N.div (fOfInt (regAt s k).toInt) (fOfInt 100)
      let len := (min (max (numFloor N (N.add (N.div (fOfNat s.cfg.fs) s.voice.voiceFreq) fHalf)) 2) 4096).toNat
      let d := fun i => storeGet (fun _ => 0) t.voice.ks.buf i
      let code := regNat s 0x401
      let var := pct 0x402
      let pd := N.div (N.mul (N.ofRatio ⟨99, 100⟩) (fOfInt (regAt s 0x404).toInt)) (fOfInt 100)
      t.voice.ks.len = len ∧ 2 ≤ len ∧ len ≤ 4096
      ∧ (∃ (x : Nat → BitVec 32) (n e v : Nat → F32), x 0 = s.voice.ks.prng ∧ t.voice.ks.prng = x len ∧ ∀ i, i < len →
          let phi := N.div (fOfNat i) (fOfNat len)
          let x' := if code ≤ 2 then (whiteNext (x i)).2 else x i
          n i = (whiteNext (x i)).1
          ∧ (code = 0 → e i = n i)
          ∧ (code = 1 → e i = if fLe (fOfInt 0) (n i) then fOfInt 1 else fOfInt (-1))
          ∧ (code = 2 → e i = N.mul fHalf (N.add (n i) (if i = 0 then fOfInt 0 else n (i - 1))))
          ∧ (code = 3 → e i = N.sin (N.mul (N.mul (N.mul (fOfInt 2) N.pi) (N.div (fOfNat len) (fOfInt 4))) (N.mul phi phi)))
          ∧ (code = 4 → e i = N.mul (N.sin (N.mul (N.mul (fOfInt 2) N.pi) phi)) (N.exp (N.mul (fOfInt (-4)) phi)))
          ∧ (code = 5 → e i = N.sub (N.mul (fOfInt 2) phi) (fOfInt 1))
          ∧ (code = 6 → e i = if fLt phi fHalf then fOfInt 1 else fOfInt (-1))
          ∧ (if fLt (fOfInt 0) var then
              v i = N.add (N.mul (N.sub (fOfInt 1) var) (e i)) (N.mul var (whiteNext x').1) ∧ x (i + 1) = (whiteNext x').2
            else v i = e i ∧ x (i + 1) = x')
          ∧ d i = if i = 0 then v 0 else N.add (N.mul (N.sub (fOfInt 1) pd) (v i)) (N.mul pd (d (i - 1))))
      ∧ (∀ i, len ≤ i → d i = storeGet (fun _ => 0) s.voice.ks.buf i)
      ∧ t.voice.ks.pos = 0 ∧ t.voice.ks.held = true ∧ t.voice.ks.fPluck = N.div (fOfNat s.cfg.fs) (fOfNat len)
      ∧ t.voice.ks.energy
          = N.mul (N.div (fOfInt 1) (fOfNat len)) (numSum N ((List.range len).map fun i => N.mul (d i) (d i)))

/-- NOTE_OFF completes: `waits` is set when the voice is active, the string is let go, the answer is OK (40_voice.md R306), every
envelope moves as 41_adsr_lfo.md R408 says, and nothing else changes. -/
def Obligations.NoteOffReleasesTheEnvelopes : Prop :=
  ∀ s : State, s.voice.halted = false →
    ∃ t, exec .noteOff s = .next t
      ∧ t = { s with
          voice := { s.voice with
            waits := if s.voice.active then true else s.voice.waits, adsr := t.voice.adsr
            ks := { s.voice.ks with held := false } }
          out := ⟨some (responseWord .ok 0), none, none⟩ }
      ∧ ∀ k, 1 ≤ k → k ≤ 5 →
          let x := fiveGet s.voice.adsr k
          let y := fiveGet t.voice.adsr k
          y.held = false ∧ y.elapsed = x.elapsed ∧ y.level = x.level
          ∧ (x.state = .attack → y.state = .forceRelease ∧ y.forceStep = s.num.mul x.level (s.num.ofRatio ⟨1, 256⟩))
          ∧ (x.state ≠ .attack → y.forceStep = x.forceStep)
          ∧ (x.state = .decay → y.state = .offRelease)
          ∧ (x.state = .sustain → y.state = .release)
          ∧ (x.state ∈ [AdsrState.idle, .release, .offRelease, .forceRelease] → y.state = x.state)

/-- TICK_CONTROL completes (40_voice.md R307): LFOs and envelopes tick from the state before, the tick-latched values are computed
from what they leave (R325), and besides those only the flags `active` and `in_use` and the outputs may change. The latched values
are the source frequencies (R322, R323), the amplitude factors with their envelope parts (R320), the filter modulation (R319) and the
pans (R321), from the LFO and envelope contributions with the activation delay (R316 to R318); the pulse widths are those of
PulseWidthQuirk, whose `addMod` is the additive combination. The rates at which the envelopes and LFOs tick are those of
41_adsr_lfo.md R401 to R406, R421, R422. Products and sums are taken in the order written (log 4). -/
def Obligations.TickRecomputesTheModulation : Prop :=
  ∀ s : State, s.voice.halted = false →
    ∃ t, exec .tickControl s = .next t
      ∧ t.voice.lfo = lfoTickAll s ∧ t.voice.adsr = adsrTickAll s
      ∧ t.voice.lat = latchedOf { s with voice := { s.voice with lfo := lfoTickAll s, adsr := adsrTickAll s } }
      ∧ t = { s with
          voice := { s.voice with
            lfo := t.voice.lfo, adsr := t.voice.adsr, lat := t.voice.lat, active := t.voice.active, inUse := t.voice.inUse }
          out := t.out }
      ∧ let N := s.num
        let one := fOfInt 1
        let pct := fun (k : Nat) => N.div (fOfInt (regAt s k).toInt) (fOfInt 100)
        let idx := fun slot => ((regAt s slot).extractLsb' 0 3).toNat
        let dc := fun slot => ((regAt s slot).extractLsb' 4 3).toNat
        let env := fun slot => regNat s (slot + 2)
        let owner := fun slot => fiveGet t.voice.adsr (if env slot = 0 then 1 else env slot)
        let hasLfo := fun slot =>
          decide (idx slot ≠ 0 ∧ 500 * dc slot * s.cfg.fs ≤ (owner slot).elapsed.toNat * s.cfg.sub * 1000)
        let l := fun slot => (fiveGet t.voice.lfo (idx slot)).out
        let e := fun slot => (fiveGet t.voice.adsr (env slot)).level
        let raw := fun slot =>
          N.add (if hasLfo slot then N.mul (l slot) (pct (slot + 1)) else fOfInt 0)
            (if env slot ≠ 0 then N.mul (e slot) (pct (slot + 3)) else fOfInt 0)
        let unit := fun x => fClamp x (fOfInt (-1)) one
        let lfoPart := fun slot =>
          if hasLfo slot then N.sub one (N.div (N.mul (pct (slot + 1)) (N.sub one (l slot))) (fOfInt 2)) else one
        let envPart := fun slot => if env slot ≠ 0 then N.sub one (N.mul (pct (slot + 3)) (N.sub one (e slot))) else one
        let amp := fun slot => N.mul (lfoPart slot) (envPart slot)
        let freq := fun u =>
          let octaves := N.add (N.add (fOfInt (regAt s (u + 3)).toInt) (N.div (fOfInt (regAt s (u + 4)).toInt) (fOfInt 12)))
            (N.div (unit (raw (u + 0x18))) (N.ofRatio ⟨14, 10⟩))
          fClamp (N.mul s.voice.voiceFreq (N.mul (N.exp2 octaves) (N.add one (pct (u + 5))))) (N.ofRatio s.cfg.oscMin)
            (N.ofRatio s.cfg.oscMax)
        let pan := fun k slot => unit (N.add (N.div (fOfInt ((regAt s k).toInt - 50)) (fOfInt 50)) (raw slot))
        let delta := N.div (fOfNat s.cfg.sub) (fOfNat s.cfg.fs)
        let time := fun tmin tmax k => fMax (N.ofRatio tmin) (N.mul (fOfInt tmax) (N.mul (pct k) (pct k)))
        (∀ slot, addMod t slot = unit (raw slot))
        ∧ t.voice.lat.fOsc1 = freq 0x100 ∧ t.voice.lat.fOsc2 = freq 0x200 ∧ t.voice.lat.fMso = freq 0x500
        ∧ t.voice.lat.fPad = freq 0x600
        ∧ t.voice.lat.ampOsc1 = amp 0x120 ∧ t.voice.lat.ampOsc2 = amp 0x220 ∧ t.voice.lat.ampNoise = amp 0x320
        ∧ t.voice.lat.ampMso = amp 0x520 ∧ t.voice.lat.ampPad = amp 0x620
        ∧ t.voice.lat.envOsc1 = envPart 0x120 ∧ t.voice.lat.envOsc2 = envPart 0x220 ∧ t.voice.lat.envNoise = envPart 0x320
        ∧ t.voice.lat.envMso = envPart 0x520 ∧ t.voice.lat.envPad = envPart 0x620
        ∧ t.voice.lat.ffm1 = unit (raw 0x718) ∧ t.voice.lat.ffm2 = unit (raw 0x818)
        ∧ t.voice.lat.pan1 = pan 0xB01 0xB18 ∧ t.voice.lat.pan2 = pan 0xB03 0xB1C
        ∧ (∀ u, sustainLevel s u = pct (u + 2)
            ∧ attackStep s u = N.div delta (time ⟨5, 1000⟩ 5 u)
            ∧ decayStep s u = N.mul (N.div delta (time ⟨2, 1000⟩ 5 (u + 1))) (N.sub one (pct (u + 2)))
            ∧ releaseStep s u = N.div delta (time ⟨80, 1000⟩ 10 (u + 3))
            ∧ tickDelta s = delta ∧ lfoFreq s u = N.mul (N.ofRatio ⟨1, 10⟩) (N.pow (fOfInt 200) (pct (u + 1)))
            ∧ lfoWidth s u = N.add (N.ofRatio ⟨5, 10⟩) (N.mul (N.ofRatio ⟨45, 100⟩)
                (N.sub (N.div (N.mul (fOfInt 2) (fOfInt (regAt s (u + 2)).toInt)) (fOfInt 100)) one)))

/-- The end of a voice (40_voice.md R332 to R334, 60_exceptions.md R710): after the ticks, a voice that is active, waits, and is quiet
in every generator and the string becomes inactive, with one `voice_end` of its identity and data 1; otherwise the flags stay, with
no event and data 0. -/
def Obligations.TickEndsAQuietVoice : Prop :=
  ∀ s t : State, s.voice.halted = false → exec .tickControl s = .next t →
    let silent := fun (on : RegVal) (env : F32) (s1 s2 : RegVal) =>
      on ≠ 1 ∨ fLt env (s.num.ofRatio ⟨5, 100⟩) = true
        ∨ (fLt (numPct s.num s1.toInt) (s.num.ofRatio ⟨5, 100⟩) = true
            ∧ fLt (numPct s.num s2.toInt) (s.num.ofRatio ⟨5, 100⟩) = true)
    let quietVoice := silent (regAt s 0x100) t.voice.lat.envOsc1 (regAt s 0x106) (regAt s 0x107)
      ∧ silent (regAt s 0x200) t.voice.lat.envOsc2 (regAt s 0x206) (regAt s 0x207)
      ∧ silent (regAt s 0x300) t.voice.lat.envNoise (regAt s 0x306) (regAt s 0x307)
      ∧ silent (regAt s 0x500) t.voice.lat.envMso (regAt s 0x506) (regAt s 0x507)
      ∧ silent (regAt s 0x600) t.voice.lat.envPad (regAt s 0x606) (regAt s 0x607)
      ∧ (regAt s 0x400 ≠ 1 ∨ fLt s.voice.ks.energy (s.num.ofRatio ⟨5, 1000000⟩) = true)
    (quietVoice → s.voice.waits = true → s.voice.active = true →
        t.voice.active = false ∧ t.voice.inUse = false
          ∧ t.out = ⟨some (responseWord .ok 1), none, some s.voice.voiceId⟩)
    ∧ (¬(quietVoice ∧ s.voice.waits = true ∧ s.voice.active = true) →
        t.voice.active = s.voice.active ∧ t.voice.inUse = s.voice.inUse ∧ t.out = ⟨some (responseWord .ok 0), none, none⟩)

/-- The envelopes at a tick (41_adsr_lfo.md R409 to R416), from the state at its start. -/
def Obligations.EnvelopeTickRules : Prop :=
  ∀ s t : State, s.voice.halted = false → exec .tickControl s = .next t →
    ∀ k, 1 ≤ k → k ≤ 5 →
      let u := 0xD00 + 16 * (k - 1)
      let x := fiveGet s.voice.adsr k
      let y := fiveGet t.voice.adsr k
      let up := s.num.add x.level (attackStep s u)
      let down := s.num.sub x.level (decayStep s u)
      let fade := s.num.sub x.level (releaseStep s u)
      y.held = x.held ∧ y.forceStep = x.forceStep ∧ y.elapsed.toNat = min (x.elapsed.toNat + 1) (2 ^ 32 - 1)
      ∧ (x.state = .idle → y.state = .idle ∧ y.level = x.level)
      ∧ (x.state = .attack →
          if fLe (fOfInt 1) up then y.level = fOfInt 1 ∧ y.state = .decay else y.level = up ∧ y.state = .attack)
      ∧ (x.state = .decay →
          if fLe down (sustainLevel s u) then y.level = sustainLevel s u ∧ y.state = .sustain
          else y.level = down ∧ y.state = .decay)
      ∧ (x.state = .sustain → y.level = sustainLevel s u ∧ y.state = .sustain)
      ∧ (x.state = .release ∨ x.state = .offRelease →
          if fLe fade (s.num.ofRatio ⟨1, 10000⟩) then y.level = 0 ∧ y.state = .idle
          else y.level = fade ∧ y.state = x.state)
      ∧ (x.state = .forceRelease →
          let force := s.num.sub x.level x.forceStep
          if fLe force (s.num.ofRatio ⟨1, 10000⟩) then y.level = 0 ∧ y.state = (if x.held then .attack else .idle)
          else y.level = force ∧ y.state = .forceRelease)

/-- 41_adsr_lfo.md R423: one LFO at a tick; a NOTE_ON moves no LFO. -/
def Obligations.LfoTickRule : Prop :=
  (∀ s t : State, exec .noteOn s = .next t → t.voice.lfo = s.voice.lfo)
  ∧ ∀ s t : State, s.voice.halted = false → exec .tickControl s = .next t →
    ∀ k, 1 ≤ k → k ≤ 5 →
      let u := 0xC00 + 16 * (k - 1)
      let x := fiveGet s.voice.lfo k
      let y := fiveGet t.voice.lfo k
      let p := s.num.add x.phase (s.num.mul (lfoFreq s u) (tickDelta s))
      y.out = wave s.num (regNat s u) x.phase (lfoWidth s u) x.hold
      ∧ (fLe (fOfInt 1) p = false → y.phase = p ∧ y.hold = x.hold ∧ y.prng = x.prng)
      ∧ (fLe (fOfInt 1) p = true → y.phase = s.num.sub p (fFloor p)
          ∧ (if regNat s u = 4 then y.prng = prngNext x.prng ∧ y.hold = prngWhite (prngNext x.prng)
              else y.prng = x.prng ∧ y.hold = x.hold))

/-- 40_voice.md R324: pulse widths at a tick; with `QUIRK_PWM_GATE` a modulation that is not positive does not move the width. -/
def Obligations.PulseWidthQuirk : Prop :=
  ∀ s t : State, s.voice.halted = false → exec .tickControl s = .next t →
    let N := s.num
    let width := fun (base c : F32) =>
      let x := if s.cfg.quirkPwmGate = true ∧ fLt (fOfInt 0) c = false then base else N.add base c
      N.add (N.ofRatio ⟨5, 10⟩) (N.mul (N.ofRatio ⟨45, 100⟩)
        (fClamp (N.sub (N.mul (fOfInt 2) x) (fOfInt 1)) (fOfInt (-1)) (fOfInt 1)))
    t.voice.lat.pwOsc1 = width (numPct N (regInt s 0x102)) (addMod t 0x11C)
    ∧ t.voice.lat.pwOsc2 = width (numPct N (regInt s 0x202)) (addMod t 0x21C)
    ∧ t.voice.lat.pwMso = width (numPct N (regInt s 0x502)) (addMod t 0x51C)

/-- 40_voice.md R330: a RENDER_SAMPLE of an inactive voice emits silence and changes no state. -/
def Obligations.InactiveVoiceIsSilent : Prop :=
  ∀ s : State, s.voice.halted = false → s.voice.active = false →
    exec .renderSample s = .next { s with out := ⟨some (responseWord .ok 0), some (0, 0), none⟩ }

/-- RENDER_SAMPLE of an active voice completes in every good state (40_voice.md R308): it emits one finite pair and answers OK; it
changes generators, filters and STATUS.RT_FAULT only, and of the delay line only the element at the string's position
(44_karplus.md R540). What the enabled noise generator and string give and leave (their samples `g`, the state `s'` after the
generators): the colours of 43_noise.md R503 to R507 with the default coefficients of R504, and the loop of 44_karplus.md R536 to
R541. The oscillators stand in UnisonOffRestsTheLayers and HardSyncRestartsOsc2, the table readers in SamplesReadTheSelectedBanks.
Products and sums are taken in the order written (log 4). -/
def Obligations.RenderCompletes : Prop :=
  (∀ s : State, StateInv s → s.voice.halted = false → s.voice.active = true →
    ∃ t l r, exec .renderSample s = .next t
      ∧ t.out = ⟨some (responseWord .ok 0), some (l, r), none⟩ ∧ fFinite l = true ∧ fFinite r = true
      ∧ onlyRendered s t
      ∧ (t.voice.status = s.voice.status ∨ t.voice.status = s.voice.status ||| 0x08)
      ∧ ∀ j, j ≠ s.voice.ks.pos → storeGet (fun _ => 0) t.voice.ks.buf j = storeGet (fun _ => 0) s.voice.ks.buf j)
  ∧ (∀ (s s' : State) (g : Gens), generateAll s = some (g, s') → regAt s 0x300 = 1 →
      let N := s.num
      let c := s.cfg.pink
      let n := s.voice.noise
      let x := (whiteNext n.prng).2
      let w := (whiteNext n.prng).1
      let pole := fun a k b => N.add (N.mul (N.ofRatio a) b) (N.mul w (N.ofRatio k))
      let b0 := pole c.a0 c.c0 n.b0
      let b1 := pole c.a1 c.c1 n.b1
      let b2 := pole c.a2 c.c2 n.b2
      let b3 := pole c.a3 c.c3 n.b3
      let b4 := pole c.a4 c.c4 n.b4
      let b5 := N.sub (N.mul (N.ofRatio c.a5) n.b5) (N.mul w (N.ofRatio c.c5))
      let total := N.add (N.add (N.add (N.add (N.add (N.add (N.add b0 b1) b2) b3) b4) b5) n.b6) (N.mul w (N.ofRatio c.d))
      let brown := N.div (N.add n.brown (N.mul (N.ofRatio ⟨2, 100⟩) w)) (N.ofRatio ⟨102, 100⟩)
      let gives := fun y n' => g.noise = N.mul y s.voice.lat.ampNoise ∧ s'.voice.noise = n'
      (regAt s 0x301 = 0 → gives w { n with prng := x })
      ∧ (regAt s 0x301 = 1 →
          gives (N.mul total (N.ofRatio c.gain)) ⟨x, b0, b1, b2, b3, b4, b5, N.mul w (N.ofRatio c.c6), n.brown⟩)
      ∧ (regAt s 0x301 = 2 → gives (N.mul (N.ofRatio ⟨35, 10⟩) brown) { n with prng := x, brown := brown }))
  ∧ State.reset.cfg.pink
      = ⟨⟨99886, 100000⟩, ⟨555179, 10000000⟩, ⟨99332, 100000⟩, ⟨750759, 10000000⟩, ⟨96900, 100000⟩, ⟨1538520, 10000000⟩,
          ⟨86650, 100000⟩, ⟨3104856, 10000000⟩, ⟨55000, 100000⟩, ⟨5329522, 10000000⟩, ⟨-7616, 10000⟩, ⟨168980, 10000000⟩,
          ⟨5362, 10000⟩, ⟨115926, 1000000⟩, ⟨11, 100⟩⟩
  ∧ ∀ (s s' : State) (g : Gens), generateAll s = some (g, s') → regAt s 0x400 = 1 →
      let N := s.num
      let k := s.voice.ks
      let at' := fun (m : List (Nat × F32)) j => storeGet (fun _ => 0) m j
      let y := at' k.buf k.pos
      let damp := N.div (N.mul fHalf (fOfInt (regAt s 0x403).toInt)) (fOfInt 100)
      let v := fOfInt (regAt s (if k.held then 0x408 else 0x409)).toInt
      let t60 := N.add (N.mul (fOfInt 10) (N.sub (fOfInt 1) (N.div v (fOfInt 100)))) (N.ofRatio ⟨5, 100⟩)
      let rho := if regAt s 0x405 = 0 then N.sub (fOfInt 1) (N.div (N.mul (N.ofRatio ⟨5, 100⟩) v) (fOfInt 100))
        else N.exp10 (N.div (fOfInt (-3)) (N.mul k.fPluck t60))
      g.ks = y
      ∧ s'.voice.ks = { k with
          buf := s'.voice.ks.buf, pos := (k.pos + 1) % k.len
          energy := N.add k.energy (N.div (N.sub (N.mul y y) k.energy) (fOfInt 1024)) }
      ∧ at' s'.voice.ks.buf k.pos
          = N.mul rho (N.add (N.mul (N.sub (fOfInt 1) damp) y) (N.mul damp (at' k.buf ((k.pos + 1) % k.len))))
      ∧ ∀ j, j ≠ k.pos → at' s'.voice.ks.buf j = at' k.buf j

/-- The last check of a RENDER_SAMPLE (40_voice.md R308, R331): a finite pair goes out as it is; a pair that is not finite goes out as
silence, with RT_FAULT raised and both filters cleared, every other state change standing. -/
def Obligations.NonFiniteSampleBecomesSilence : Prop :=
  ∀ (s s' : State) (g : Gens), s.voice.halted = false → s.voice.active = true → generateAll s = some (g, s') →
    let lr := (mixOut s' g).1
    let m := (mixOut s' g).2
    (fFinite lr.1 = true → fFinite lr.2 = true →
        exec .renderSample s = .next { m with out := ⟨some (responseWord .ok 0), some lr, none⟩ })
    ∧ (fFinite lr.1 = false ∨ fFinite lr.2 = false →
        exec .renderSample s = .next { m with
          voice := { m.voice with status := m.voice.status ||| 0x08, filt1 := ⟨0, 0⟩, filt2 := ⟨0, 0⟩ }
          out := ⟨some (responseWord .ok 0), some (0, 0), none⟩ })

/-- 40_voice.md R337: a disabled generator contributes 0 and keeps its state through a RENDER_SAMPLE, a disabled oscillator with its
restart flag cleared. -/
def Obligations.DisabledGeneratorsRest : Prop :=
  ∀ (s s' : State) (g : Gens), generateAll s = some (g, s') →
    (regAt s 0x100 ≠ 1 → g.osc1 = 0 ∧ s'.voice.osc1 = { s.voice.osc1 with wrapped := false })
    ∧ (regAt s 0x200 ≠ 1 → g.osc2 = 0 ∧ s'.voice.osc2 = { s.voice.osc2 with wrapped := false })
    ∧ (regAt s 0x300 ≠ 1 → g.noise = 0 ∧ s'.voice.noise = s.voice.noise)
    ∧ (regAt s 0x400 ≠ 1 → g.ks = 0 ∧ s'.voice.ks = s.voice.ks)
    ∧ (regAt s 0x500 ≠ 1 → g.mso = 0 ∧ s'.voice.msoIdx = s.voice.msoIdx)
    ∧ (regAt s 0x600 ≠ 1 → g.padA = 0 ∧ g.padB = 0 ∧ s'.voice.padPos = s.voice.padPos
        ∧ s'.voice.padLenSeen = s.voice.padLenSeen)

/-- Hard sync (42_oscillator.md R463): when OSC2.SYNC is 1 and OSC1's layer 0 restarted in this sample, the sample of an enabled OSC2
is computed from phase 0 in every layer, and the phases advance from 0; else both from its own phases. `oscRender` is spelled out in
UnisonOffRestsTheLayers. -/
def Obligations.HardSyncRestartsOsc2 : Prop :=
  ∀ (s s' : State) (g : Gens), generateAll s = some (g, s') → regAt s 0x200 = 1 →
    let sync := regAt s 0x208 = 1 ∧ s'.voice.osc1.wrapped = true
    let rest := { s.voice.osc2 with layers := nineMap (fun l => { l with phase := 0 }) s.voice.osc2.layers }
    let play := fun o => oscRender s 0x200 s.voice.lat.fOsc2 s.voice.lat.pwOsc2 o
    (sync → g.osc2 = s.num.mul (play rest).1 s.voice.lat.ampOsc2 ∧ s'.voice.osc2 = (play rest).2
      ∧ s'.voice.osc2 = advanceOsc s 0x200 s.voice.lat.fOsc2 rest)
    ∧ (¬sync → g.osc2 = s.num.mul (play s.voice.osc2).1 s.voice.lat.ampOsc2 ∧ s'.voice.osc2 = (play s.voice.osc2).2
      ∧ s'.voice.osc2 = advanceOsc s 0x200 s.voice.lat.fOsc2 s.voice.osc2)

/-- The oscillators. With UNISON_MODE 0 the layers 1 to 8 rest: phase and hold stay, but for a hard sync of OSC2, which sets the phases
to 0 (42_oscillator.md R458, R463, R464). OSC1's sample is its render times its amplitude factor (40_voice.md R326). A render of an
oscillator at unit `u`: the waveforms (R466), the layer frequencies with ratios and detune (R452, R458 to R460), the stack mix (R461),
the unison distortion (R462) and the phase advance with its draws in rising layer order, `x i` being the PRNG before layer `i`
(R464, R465). Products and sums are taken in the order written (log 4). -/
def Obligations.UnisonOffRestsTheLayers : Prop :=
  (∀ (s s' : State) (g : Gens), generateAll s = some (g, s') →
    (regAt s 0x109 = 0 → s'.voice.osc1.layers = { s.voice.osc1.layers with e0 := s'.voice.osc1.layers.e0 })
    ∧ (regAt s 0x209 = 0 →
        let before := if regAt s 0x200 = 1 ∧ regAt s 0x208 = 1 ∧ s'.voice.osc1.wrapped = true then
          nineMap (fun l => { l with phase := 0 }) s.voice.osc2.layers else s.voice.osc2.layers
        s'.voice.osc2.layers = { before with e0 := s'.voice.osc2.layers.e0 })
    ∧ (regAt s 0x100 = 1 →
        let r := oscRender s 0x100 s.voice.lat.fOsc1 s.voice.lat.pwOsc1 s.voice.osc1
        g.osc1 = s.num.mul r.1 s.voice.lat.ampOsc1 ∧ s'.voice.osc1 = r.2))
  ∧ (∀ (N : Sys2Proof.Num) (p pw h : F32),
      wave N 0 p pw h = N.sin (N.mul (N.mul (fOfInt 2) N.pi) p)
      ∧ wave N 1 p pw h = (if fLt p fHalf then fOfInt 1 else fOfInt (-1))
      ∧ wave N 2 p pw h = (if fLt p pw then fOfInt 1 else fOfInt (-1))
      ∧ wave N 3 p pw h = (if fLt p pw then N.add (fOfInt (-1)) (N.div (N.mul (fOfInt 2) p) pw)
          else N.sub (fOfInt 1) (N.div (N.mul (fOfInt 2) (N.sub p pw)) (N.sub (fOfInt 1) pw)))
      ∧ wave N 4 p pw h = h)
  ∧ ∀ (s : State) (u : Nat) (fsrc pw : F32) (o : Osc),
      let N := s.num
      let one := fOfInt 1
      let pct := fun (k : Nat) => N.div (fOfInt (regAt s k).toInt) (fOfInt 100)
      let mode := regNat s (u + 9)
      let wf := regNat s (u + 1)
      let semi := fun n => N.exp2 (N.div (fOfInt n) (fOfInt 12))
      let ratios := if mode = 2 then
          [one, fOfInt 2, fOfInt 4, fOfInt 8, fOfInt 16, N.ofRatio ⟨1, 2⟩, N.ofRatio ⟨1, 4⟩, N.ofRatio ⟨1, 8⟩, N.ofRatio ⟨1, 16⟩]
        else if mode = 3 then [semi 0, semi 4, semi 7, semi 11, semi 12, semi 16, semi 19, semi 23, semi 24]
        else if mode = 4 then [semi 0, semi 3, semi 7, semi 10, semi 12, semi 15, semi 19, semi 22, semi 24]
        else if mode = 5 then
          [N.ofRatio ⟨1, 2⟩, N.ofRatio ⟨3, 2⟩, one, fOfInt 2, fOfInt 3, fOfInt 4, fOfInt 5, fOfInt 6, fOfInt 8]
        else [one, one, one, one, one, one, one, one, one]
      let spread := fun i => if mode = 0 then one
        else N.exp2 (N.div (N.mul (N.ofRatio ⟨[0, 1, -1, 2, -2, 3, -3, 4, -4].getD i 0, 4⟩) (pct (u + 10))) (fOfInt 12))
      let inc := fun i => N.div (fClamp (N.mul (N.mul fsrc (ratios.getD i one)) (spread i)) (N.ofRatio s.cfg.oscMin)
        (N.ofRatio s.cfg.oscMax)) (fOfNat s.cfg.fs)
      let waves := (nineList o.layers).map fun l => wave N wf l.phase pw l.hold
      let levels := [pct (u + 12), pct (u + 13), pct (u + 14), pct (u + 15), pct (u + 16), pct (u + 17), pct (u + 18), pct (u + 19),
        pct (u + 20)]
      let sum := fun (xs : List F32) => xs.tail.foldl N.add (xs.headD 0)
      let mix := if mode = 0 then wave N wf o.layers.e0.phase pw o.layers.e0.hold
        else if fLt (fOfInt 0) (sum levels) then N.div (sum (List.zipWith N.mul levels waves)) (sum levels) else fOfInt 0
      let a := pct (u + 11)
      let r := oscRender s u fsrc pw o
      r.1 = N.add (N.mul (N.sub one a) mix)
        (N.mul (N.mul a (N.div (fOfInt 2) N.pi)) (N.atan (N.mul mix (N.add one (N.mul (fOfInt 9) a)))))
      ∧ r.2.wrapped = fLe one (N.add o.layers.e0.phase (inc 0))
      ∧ ∃ x : Nat → BitVec 32, x 0 = o.prng ∧ r.2.prng = x (if mode = 0 then 1 else 9) ∧ ∀ i, i < 9 →
          let l := (nineList o.layers).getD i ⟨0, 0⟩
          let l' := (nineList r.2.layers).getD i ⟨0, 0⟩
          let p := N.add l.phase (inc i)
          if mode = 0 ∧ i ≠ 0 then l' = l
          else if fLe one p then
            l'.phase = N.sub p one
            ∧ (if wf = 4 then l'.hold = (whiteNext (x i)).1 ∧ x (i + 1) = (whiteNext (x i)).2
                else l'.hold = l.hold ∧ x (i + 1) = x i)
          else l'.phase = p ∧ l'.hold = l.hold ∧ x (i + 1) = x i

/-- Bus sums, state-variable filters, distortion and amplifier (40_voice.md R327 to R329; 47_filter_dist_amp.md R650 to R657, R670 to
R672, R680 to R682): what they leave in the filters, and the pair they give. Products and sums are taken in the order written (log 4). -/
def Obligations.FiltersAndAmplifier : Prop :=
  ∀ (s : State) (g : Gens),
    let N := s.num
    let one := fOfInt 1
    let pct := fun (k : Nat) => N.div (fOfInt (regAt s k).toInt) (fOfInt 100)
    let bus := fun (send : Nat) (pad : F32) =>
      N.add (N.add (N.add (N.add (N.add (N.mul (pct (0x100 + send)) g.osc1) (N.mul (pct (0x200 + send)) g.osc2))
        (N.mul (pct (0x300 + send)) g.noise)) (N.mul (pct (0x400 + send)) g.ks)) (N.mul (pct (0x500 + send)) g.mso))
        (N.mul (pct (0x600 + send)) pad)
    let fmax := N.div (fOfNat s.cfg.fs) (fOfInt 6)
    let cutoff := fun (u : Nat) (ffm : F32) =>
      let base := N.mul (fOfInt 20) (N.pow (N.div fmax (fOfInt 20)) (pct u))
      let track := N.pow (N.div s.voice.voiceFreq (N.ofRatio ⟨2616256, 10000⟩)) (pct (u + 4))
      fClamp (N.mul (N.mul base track) (N.exp2 (N.mul (fOfInt (regAt s (u + 1)).toInt) ffm))) (fOfInt 20) fmax
    let run := fun (u : Nat) (ffm x : F32) (f : Filt) =>
      let coeff := N.mul (fOfInt 2) (N.sin (N.div (N.mul N.pi (cutoff u ffm)) (fOfNat s.cfg.fs)))
      let low := N.ofRatio ⟨707, 1000⟩
      let damp := N.div one (N.add low (N.mul (pct (u + 2)) (N.sub (fOfInt 20) low)))
      let lp := N.add f.lp (N.mul coeff f.bp)
      let hp := N.sub (N.sub x lp) (N.mul damp f.bp)
      let bp := N.add f.bp (N.mul coeff hp)
      let band := regNat s (u + 3)
      ((if band = 0 then lp else if band = 1 then hp else if band = 2 then bp else x), (⟨lp, bp⟩ : Filt))
    let stage := fun (u : Nat) (y : F32) =>
      let k := N.mul (pct (u + 1)) (fOfInt (regAt s (u + 2)).toInt)
      let clip := N.mul (N.div (fOfInt 2) N.pi) (N.atan (N.mul y k))
      let yd := if regAt s (u + 4) = 1 ∧ fLt (fOfInt 4) k = true then N.div clip (fOfInt 4) else clip
      if regAt s u = 1 then N.add (N.mul (pct (u + 3)) yd) (N.mul (N.sub one (pct (u + 3))) y) else y
    let c1 := run 0x700 s.voice.lat.ffm1 (bus 6 g.padA) s.voice.filt1
    let c2 := run 0x800 s.voice.lat.ffm2 (bus 7 g.padB) s.voice.filt2
    let side := fun (pan : F32 → F32) =>
      N.mul (N.add (N.mul (N.mul (stage 0x900 c1.1) (pct 0xB00)) (pan s.voice.lat.pan1))
        (N.mul (N.mul (stage 0xA00 c2.1) (pct 0xB02)) (pan s.voice.lat.pan2))) (N.ofRatio ⟨2, 10⟩)
    (mixOut s g).2 = { s with voice := { s.voice with filt1 := c1.2, filt2 := c2.2 } }
    ∧ (mixOut s g).1 = (side (N.sub one), side (N.add one))

/-- 40_voice.md R309: CLEAR_FILTERS, the word 0x80000000, completes: both filters' integrators become 0.0, nothing else changes, and
the answer is OK. -/
def Obligations.ClearFiltersClears : Prop :=
  ∀ s : State, s.voice.halted = false →
    decode 0x80000000 = .ok .clearFilters ∧
    exec .clearFilters s = .next { s with
      voice := { s.voice with filt1 := ⟨0, 0⟩, filt2 := ⟨0, 0⟩ }, out := ⟨some (responseWord .ok 0), none, none⟩ }

/-- BUILD_PAD completes (40_voice.md R310, 46_pad.md R611): an idle builder starts from the PADB registers, a busy one notes the
request; the tables and everything else stay, and the answer is OK. -/
def Obligations.BuildPadRequestsABuild : Prop :=
  ∀ s : State, s.voice.halted = false →
    (s.program.padBusy = true → exec .buildPad s = .next { s with
      program := { s.program with padPending := true }, out := ⟨some (responseWord .ok 0), none, none⟩ })
    ∧ (s.program.padBusy = false → ∃ wait, exec .buildPad s = .next { s with
        program := { s.program with
          padBusy := true, padWait := wait, builds := s.program.builds + 1
          padSnap := ⟨regAt s 0xE00, regAt s 0xE01, regAt s 0xE02, regAt s 0xE03, regAt s 0xE04, regAt s 0xE05, regAt s 0xE06,
            regAt s 0xE07, regAt s 0xE08, regAt s 0xE09, regAt s 0xE0A, regAt s 0xE0B, regAt s 0xE0C, regAt s 0xE0D,
            regAt s 0xE0E, regAt s 0xE0F⟩ }
        out := ⟨some (responseWord .ok 0), none, none⟩ })

/-! ## Rules of the whole machine -/

/-- 40_voice.md R335: the life cycle of a voice. From any of its four states NOTE_ON goes to ACTIVE, NOTE_OFF takes ACTIVE to
RELEASING and leaves the others, a tick takes RELEASING to ENDED or leaves the flags, and no other instruction changes them; reset
leaves FREE. -/
def Obligations.VoiceLifeCycle : Prop :=
  (∀ (req : Cfg) (v : Voice), v ∈ (State.resetWith req).voice :: (State.resetWith req).others →
    v.inUse = false ∧ v.active = false ∧ v.waits = false)
  ∧ ∀ (i : Instr) (s t : State), s.voice.halted = false → s.voice.inUse = s.voice.active → exec i s = .next t →
      let before := (s.voice.inUse, s.voice.active, s.voice.waits)
      let after := (t.voice.inUse, t.voice.active, t.voice.waits)
      (i = .noteOn → after = (true, true, false))
      ∧ (i = .noteOff → after = if before = (true, true, false) then (true, true, true) else before)
      ∧ (i = .tickControl → after = before ∨ (before = (true, true, true) ∧ after = (false, false, true)))
      ∧ (i ≠ .noteOn → i ≠ .noteOff → i ≠ .tickControl → after = before)

/-- Only TICK_CONTROL emits `voice_end`, only for an active voice, and a voice that is not active becomes active by NOTE_ON only: so
at most one `voice_end` comes between two NOTE_ONs (60_exceptions.md R711, 40_voice.md R334). -/
def Obligations.OneVoiceEndPerNote : Prop :=
  ∀ (i : Instr) (s t : State), exec i s = .next t →
    (t.out.event ≠ none → i = .tickControl ∧ s.voice.active = true ∧ t.voice.active = false
      ∧ t.out.event = some s.voice.voiceId)
    ∧ (s.voice.active = false → i ≠ .noteOn → t.voice.active = false)

/-- Only the Table Builder's steps change tables, bank selects and generation counts: no instruction does (20_memory.md R204,
R210). -/
def Obligations.InstructionsLeaveTheTables : Prop :=
  ∀ (i : Instr) (s t : State), exec i s = .next t → sameTables s.program t.program

/-- Parameter registers are written only by WRITE_PARAM (10_state.md R50). -/
def Obligations.OnlyWritesChangeRegisters : Prop :=
  ∀ (i : Instr) (s t : State), exec i s = .next t → (∀ a v, i.command ≠ .write a v) → ∀ k, regAt t k = regAt s k

/-- 60_exceptions.md R702: STATUS bits are sticky. A set bit is cleared only by a write to address 0x002 with a 1 in its place, and by
reset; raising sets the bit, and raising a set bit changes nothing. -/
def Obligations.StatusBitsAreSticky : Prop :=
  (∀ (i : Instr) (s t : State) (j : Nat), exec i s = .next t → s.voice.status.getLsbD j = true →
    t.voice.status.getLsbD j = true ∨ ∃ v : RegVal, i.command = .write 0x002 v ∧ v.getLsbD j = true)
  ∧ (∀ (st : BitVec 5) (b : StatusBit), statusRaise st b = st ||| statusMask b
      ∧ statusRaise (statusRaise st b) b = statusRaise st b)
  ∧ statusMask .cmdReserved = 1 ∧ statusMask .badAddr = 2 ∧ statusMask .roWrite = 4 ∧ statusMask .rtFault = 8
      ∧ statusMask .cfgFallback = 16

/-- A write to a register that is not marked live does not change the next sample: tick, note-on and builder registers reach the
output only through TICK_CONTROL, NOTE_ON and the Table Builder (40_voice.md R325, 70_reset_and_hazards.md R761, R762). -/
def Obligations.TimedRegistersWait : Prop :=
  ∀ (i : Instr) (a : PAddr) (v : RegVal) (r : RegInfo) (s t : State),
    i.command = .write a v → regInfo s.cfg.msoLen a = some r → r.effect ≠ .live → exec i s = .next t →
    audioOf (exec .renderSample t) = audioOf (exec .renderSample s)

/-- A sample depends on the shared state only through the selected banks: the inactive banks, the builder and the PADB and MSOB
registers do not reach it (20_memory.md R204, R209). What the enabled readers read there: the MSO reader one element through the PWM
warp (45_mso.md R579, R580), the PAD reader two interpolated taps half a table apart, the position rescaled when the length changed
(46_pad.md R613 to R615). Products and sums are taken in the order written (log 4); the position of tap B is brought into the table by
one conditional subtraction (log 18). -/
def Obligations.SamplesReadTheSelectedBanks : Prop :=
  (∀ (s : State) (p : Program), p.padSel = s.program.padSel → p.msoSel = s.program.msoSel →
    padBank p p.padSel = padBank s.program s.program.padSel → msoBank p p.msoSel = msoBank s.program s.program.msoSel →
    audioOf (exec .renderSample { s with program := p }) = audioOf (exec .renderSample s))
  ∧ (∀ (s s' : State) (g : Gens), generateAll s = some (g, s') → regAt s 0x500 = 1 →
      let N := s.num
      let len := s.cfg.msoLen
      let p := N.div s.voice.msoIdx (fOfNat len)
      let pw := s.voice.lat.pwMso
      let warped := if fLt p pw then N.div (N.mul fHalf p) pw
        else N.add fHalf (N.div (N.mul fHalf (N.sub p pw)) (N.sub (fOfInt 1) pw))
      let j := (numFloor N (N.mul warped (fOfNat len)) % (len : Int)).toNat
      let next := N.add s.voice.msoIdx (N.div (N.mul (fOfNat len) s.voice.lat.fMso) (fOfNat s.cfg.fs))
      j < len
      ∧ g.mso = N.mul (storeGet (msoBaseElem N len) (msoBank s.program s.program.msoSel) j) s.voice.lat.ampMso
      ∧ s'.voice.msoIdx = if fLe (fOfNat len) next then N.sub next (fOfNat len) else next)
  ∧ ∀ (s s' : State) (g : Gens), generateAll s = some (g, s') → regAt s 0x600 = 1 →
      let N := s.num
      let b := padBank s.program s.program.padSel
      let len := fOfNat b.len
      let elem := fun i => storeGet (fun _ => 0) b.elems i
      let tap := fun z =>
        let i := (numFloor N z % (b.len : Int)).toNat
        let fr := N.sub z (fFloor z)
        N.add (N.mul (N.sub (fOfInt 1) fr) (elem i)) (N.mul fr (elem ((i + 1) % b.len)))
      let wrap := fun y => if fLe len y then N.sub y len else y
      let z := if b.len = s.voice.padLenSeen then s.voice.padPos
        else N.div (N.mul s.voice.padPos len) (fOfNat s.voice.padLenSeen)
      0 < b.len
      ∧ g.padA = N.mul (tap z) s.voice.lat.ampPad
      ∧ g.padB = N.mul (tap (wrap (N.add z (fOfNat (b.len / 2))))) s.voice.lat.ampPad
      ∧ s'.voice.padPos = wrap (N.add z (N.div s.voice.lat.fPad b.f0)) ∧ s'.voice.padLenSeen = b.len

/-! ## The Table Builder -/

/-- A PAD build completes in one builder step (46_pad.md R611, 20_memory.md R208; log 7, log 8): the other bank holds the table of
the snapshot and becomes the selected one, the bank read until now stays as it is, the generation counts, and a pending request
starts the next build from the registers as they are now. The table: harmonic profiles over the bins 1 to N/2 - 1, a phase drawn for
each bin (`x i` being the builder's PRNG at bin `i`), the sum of cosines, the peak normalised to 1 (46_pad.md R600 to R610). Products and
sums are taken in the order written (log 4), and the whole turns of a cosine's argument are dropped (log 18). -/
def Obligations.PadSwapPublishesTheBuild : Prop :=
  ∀ s : State, padDue s.program = true →
    ∃ t, step s = .next t
      ∧ t.program.padSel = !s.program.padSel ∧ t.program.padGen = s.program.padGen + 1
      ∧ padBank t.program s.program.padSel = padBank s.program s.program.padSel
      ∧ (padBank t.program t.program.padSel).len = 2 ^ (15 + s.program.padSnap.quality.toNat)
      ∧ (padBank t.program t.program.padSel).f0 = noteFreq s.num s.program.padSnap.baseNote.toInt
      ∧ (let N := s.num
          let snap := s.program.padSnap
          let len := 2 ^ (15 + snap.quality.toNat)
          let one := fOfInt 1
          let f0 := N.mul (fOfInt 440) (N.exp2 (N.div (fOfInt (snap.baseNote.toInt - 69)) (fOfInt 12)))
          let harmonics := [(1, snap.harm1), (2, snap.harm2), (3, snap.harm3), (4, snap.harm4), (5, snap.harm5), (6, snap.harm6),
            (7, snap.harm7), (8, snap.harm8), (9, snap.harm9), (10, snap.harm10)]
          let pct := fun (v : RegVal) => N.div (fOfInt v.toInt) (fOfInt 100)
          let cents := fOfInt (1 + 2 * snap.bandwidth.toInt)
          let width := fun (h : Int) =>
            N.div (N.mul (N.mul (N.sub (N.exp2 (N.div cents (fOfInt 1200))) one) f0) (fOfInt h)) (N.mul (fOfInt 2) (fOfNat s.cfg.fs))
          let centre := fun (h : Int) =>
            N.div (N.mul (N.mul f0 (fOfInt h))
              (N.add one (N.mul (N.mul (pct snap.detuneSpread) (N.ofRatio ⟨1, 100⟩)) (fOfInt (h - 1))))) (fOfNat s.cfg.fs)
          let profile := fun x b =>
            if snap.halfCut = 1 ∧ fLt (fOfInt 0) x = true then fOfInt 0
            else if snap.shape = 0 then (if fLe (fAbs x) b then N.div one b else fOfInt 0)
            else if snap.shape = 1 then N.div (N.exp (fNeg (N.mul (N.div x b) (N.div x b)))) b
            else N.div (N.exp (fNeg (N.div (fAbs x) b))) b
          let amp := fun (i : Nat) => numSum N (harmonics.map fun e =>
            N.mul (pct e.2) (profile (N.sub (N.div (fOfNat i) (fOfNat len)) (centre e.1)) (width e.1)))
          ∃ x : Nat → BitVec 32, x 0 = 1 ∧ (∀ i, x (i + 1) = 1664525 * x i + 1013904223) ∧
            let turn := N.mul (fOfInt 2) N.pi
            let phase := fun i => N.div (N.mul turn (fOfNat ((x i).extractLsb' 8 24).toNat)) (fOfInt 16777216)
            let raw := fun n => numSum N ((List.range (len / 2 - 1)).map fun j =>
              N.mul (amp (j + 1))
                (N.cos (N.add (N.div (N.mul turn (fOfNat ((j + 1) * n % len))) (fOfNat len)) (phase (j + 1)))))
            let peak := ((List.range len).map raw).foldl (fun m v => fMax m (fAbs v)) (fOfInt 0)
            ∀ n, n < len → storeGet (fun _ => 0) (padBank t.program t.program.padSel).elems n
              = if fLt (fOfInt 0) peak then N.div (raw n) peak else raw n)
      ∧ t.program.padPending = false ∧ t.program.padBusy = s.program.padPending
      ∧ (s.program.padPending = true → t.program.padSnap = padSnapOf s ∧ t.program.builds = s.program.builds + 1)
      ∧ (s.program.padPending = false → t.program.padSnap = s.program.padSnap ∧ t.program.padWait = s.program.padWait
          ∧ t.program.builds = s.program.builds)
      ∧ t = { s with
          program := { s.program with
            pad0 := t.program.pad0, pad1 := t.program.pad1, padSel := t.program.padSel, padGen := t.program.padGen
            padBusy := t.program.padBusy, padPending := false, padSnap := t.program.padSnap, padWait := t.program.padWait
            builds := t.program.builds }
          out := ⟨none, none, none⟩ }

/-- An MSO build completes in one builder step (45_mso.md R577; log 7, log 8), as a PAD build does. Its table: the symmetry (R572), the
effective breakpoints (R573) and the seven segments between them (R574, R575). Products and sums are taken in the order written
(log 4). -/
def Obligations.MsoSwapPublishesTheBuild : Prop :=
  ∀ s : State, padDue s.program = false → msoDue s.program = true →
    ∃ t, step s = .next t
      ∧ t.program.msoSel = !s.program.msoSel ∧ t.program.msoGen = s.program.msoGen + 1
      ∧ msoBank t.program s.program.msoSel = msoBank s.program s.program.msoSel
      ∧ (let N := s.num
          let len := s.cfg.msoLen
          let snap := s.program.msoSnap
          let one := fOfInt 1
          let sym := N.add (N.ofRatio ⟨5, 100⟩) (N.div (N.mul (N.ofRatio ⟨9, 10⟩) (fOfInt snap.symmetry.toInt)) (fOfInt 100))
          let into := fun (z : Int) => (min (max z 0) ((len : Int) - 1)).toNat
          let low := fun (v : RegVal) => into (numFloor N (N.mul (fOfInt v.toInt) (N.mul (fOfInt 2) sym)))
          let high := fun (v : RegVal) => into (numFloor N (N.sub (fOfNat len)
            (N.mul (fOfInt ((len : Int) - v.toInt)) (N.mul (fOfInt 2) (N.sub one sym)))))
          let p1 := low snap.a
          let p2 := max (low snap.b) p1
          let p3 := max (low snap.c) p2
          let p4 := max (high snap.d) p3
          let p5 := max (high snap.e) p4
          let p6 := max (high snap.f) p5
          let quarter := fun start stop n => N.mul (N.div N.pi (fOfInt 2)) (N.div (fOfNat (n - start)) (fOfNat (stop - start)))
          ∀ n, n < len → storeGet (msoBaseElem N len) (msoBank t.program t.program.msoSel) n
            = if n < p1 then N.sin (quarter 0 p1 n)
              else if n < p2 then one
              else if n < p3 then N.cos (quarter p2 p3 n)
              else if n < p4 then fOfInt 0
              else if n < p5 then fNeg (N.sin (quarter p4 p5 n))
              else if n < p6 then fOfInt (-1)
              else fNeg (N.cos (quarter p6 len n)))
      ∧ t.program.msoPending = false ∧ t.program.msoBusy = s.program.msoPending
      ∧ (s.program.msoPending = true → t.program.msoSnap = msoSnapOf s ∧ t.program.builds = s.program.builds + 1)
      ∧ (s.program.msoPending = false → t.program.msoSnap = s.program.msoSnap ∧ t.program.msoWait = s.program.msoWait
          ∧ t.program.builds = s.program.builds)
      ∧ t = { s with
          program := { s.program with
            msom0 := t.program.msom0, msom1 := t.program.msom1, msoSel := t.program.msoSel, msoGen := t.program.msoGen
            msoBusy := t.program.msoBusy, msoPending := false, msoSnap := t.program.msoSnap, msoWait := t.program.msoWait
            builds := t.program.builds }
          out := ⟨none, none, none⟩ }

/-- A running PAD build, and a running MSO build, comes one step nearer its swap at every voice step, whatever the instruction, so it
completes after finitely many (60_exceptions.md R716; that the count is kept in voice steps is the model's reading, log 7). -/
def Obligations.PadBuildComesNearer : Prop :=
  ∀ (s t : State) (core : Nat) (w : Word) (rest : List (Nat × Word)),
    s.port = (core, w) :: rest → (focus s core).isSome = true → step s = .next t →
    (s.program.padBusy = true → 0 < s.program.padWait → msoDue s.program = false →
      t.program.padBusy = true ∧ t.program.padWait + 1 = s.program.padWait ∧ t.program.padSnap = s.program.padSnap)
    ∧ (s.program.msoBusy = true → 0 < s.program.msoWait → padDue s.program = false →
      t.program.msoBusy = true ∧ t.program.msoWait + 1 = s.program.msoWait ∧ t.program.msoSnap = s.program.msoSnap)

/-- 45_mso.md R573, R574: the effective breakpoints rise within the table, and the seven segment lengths add up to the table
length, for every arithmetic. -/
def Obligations.MsoSegmentsFillTheTable : Prop :=
  ∀ (N : Sys2Proof.Num) (L : Nat) (sym : F32) (a b c d e f : Int), 0 < L →
    let p := breakPoints N L sym a b c d e f
    p.p1 ≤ p.p2 ∧ p.p2 ≤ p.p3 ∧ p.p3 ≤ p.p4 ∧ p.p4 ≤ p.p5 ∧ p.p5 ≤ p.p6 ∧ p.p6 ≤ L - 1 ∧ (segmentLens L p).sum = L

/-! ## Invariant, safety, reset -/

/-- Every step keeps the invariant: the stores stay in canonical form, registers stay in their domains, tables and delay lines keep
their bounds, flags stay in the life cycle, Idle envelopes are at level 0, and a request is pending only while a build runs. -/
def Obligations.EveryStepKeepsTheInvariant : Prop := ∀ s t : State, StateInv s → step s = .next t → StateInv t

/-- The invariant holds right after reset. -/
def Obligations.ResetMeetsTheInvariant : Prop := StateInv State.reset

/-- The invariant holds after a reset with any requested configuration (00_scope.md R8, 70_reset_and_hazards.md R751). -/
def Obligations.EveryResetMeetsTheInvariant : Prop := ∀ req : Cfg, StateInv (State.resetWith req)

/-- No good state faults or is refused: every step gives a next state (20_memory.md R203). -/
def Obligations.GoodStatesAreSafe : Prop := ∀ s : State, StateInv s → Safe s

/-- The parameter registers after reset (10_state.md R80, 60_exceptions.md R705). Two clauses rest on the model's choices: the identity
`req.voiceIds.headD 0` is 0 for an empty list of identities (log 11, DESIGN CHOICE), and the STATUS of the other cores is the current
one's because one configuration is requested for all of them (log 27, DESIGN CHOICE). -/
def Obligations.ResetRegisters : Prop :=
  ∀ req : Cfg,
    let s := State.resetWith req
    (∀ a r, regInfo s.cfg.msoLen a = some r → r.access = .rw → regAt s a.toNat = BitVec.ofInt 16 r.reset)
    ∧ (∀ a r, regInfo s.cfg.msoLen a = some r → r.access = .ro → a ≠ 0x000 → readView s a = BitVec.ofInt 16 r.reset)
    ∧ s.voice.status = (if (req.fs = 44100 ∨ req.fs = 48000) ∧ 1 ≤ req.sub ∧ req.sub ≤ 256 then 0 else 0x10)
    ∧ readView s 0x000 = 0#8 ++ s.voice.voiceId ∧ s.voice.voiceId = req.voiceIds.headD 0
    ∧ (∀ v ∈ s.others, v.regs = s.voice.regs ∧ v.status = s.voice.status)
    ∧ regAt s 0xF00 = BitVec.ofNat 16 (req.msoLen / 4) ∧ regAt s 0xF01 = BitVec.ofNat 16 (req.msoLen / 4 + 1)
    ∧ regAt s 0xF02 = BitVec.ofNat 16 (req.msoLen / 2) ∧ regAt s 0xF03 = BitVec.ofNat 16 (req.msoLen / 2 + 1)
    ∧ regAt s 0xF04 = BitVec.ofNat 16 (3 * req.msoLen / 4) ∧ regAt s 0xF05 = BitVec.ofNat 16 (3 * req.msoLen / 4 + 1)

/-- 10_state.md R81: the datapath of every voice after reset (440.0 is 0x43DC0000, 0.5 is 0x3F000000, 1.0 is 0x3F800000 as binary32;
FS/2 is 22050.0 or 24000.0). -/
def Obligations.ResetDatapath : Prop :=
  ∀ (req : Cfg) (v : Voice), v ∈ (State.resetWith req).voice :: (State.resetWith req).others →
    v.voiceFreq = 0x43DC0000
    ∧ v.inUse = false ∧ v.active = false ∧ v.waits = false
    ∧ v.halted = !cfgLegal (State.resetWith req).cfg
    ∧ v.lat = ⟨0x43DC0000, 0x43DC0000, 0x43DC0000, 0x43DC0000, 0x3F000000, 0x3F000000, 0x3F000000, 0x3F800000, 0x3F800000,
        0x3F800000, 0x3F800000, 0x3F800000, 0x3F800000, 0x3F800000, 0x3F800000, 0x3F800000, 0x3F800000, 0, 0, 0, 0⟩
    ∧ v.osc1 = ⟨Nine.const ⟨0, 0⟩, prngSeed v.voiceId.toNat 2, false⟩
    ∧ v.osc2 = ⟨Nine.const ⟨0, 0⟩, prngSeed v.voiceId.toNat 3, false⟩
    ∧ v.noise = ⟨prngSeed v.voiceId.toNat 0, 0, 0, 0, 0, 0, 0, 0, 0⟩
    ∧ (∀ j, storeGet (fun _ => 0) v.ks.buf j = 0) ∧ v.ks.len = 2 ∧ v.ks.pos = 0 ∧ v.ks.held = false ∧ v.ks.energy = 0
    ∧ v.ks.fPluck = (if req.fs = 48000 then 0x46BB8000 else 0x46AC4400) ∧ v.ks.prng = prngSeed v.voiceId.toNat 1
    ∧ v.msoIdx = 0 ∧ v.padPos = 0 ∧ v.padLenSeen = 32768 ∧ v.filt1 = ⟨0, 0⟩ ∧ v.filt2 = ⟨0, 0⟩
    ∧ (∀ k, 1 ≤ k → k ≤ 5 → fiveGet v.lfo k = ⟨0, 0, 0, prngSeed v.voiceId.toNat (3 + k)⟩)
    ∧ ∀ k, 1 ≤ k → k ≤ 5 → fiveGet v.adsr k = ⟨.idle, 0, false, 0, 0⟩

/-- 10_state.md R82: the shared state after reset: silent PAD banks for note 60, MSO banks equal to the base table, no build
running. -/
def Obligations.ResetTables : Prop :=
  ∀ req : Cfg,
    let s := State.resetWith req
    let p := s.program
    p.pad0.len = 32768 ∧ p.pad1.len = 32768
    ∧ (∀ j, storeGet (fun _ => 0) p.pad0.elems j = 0 ∧ storeGet (fun _ => 0) p.pad1.elems j = 0)
    ∧ p.pad0.f0 = s.num.mul (fOfInt 440) (s.num.exp2 (s.num.div (fOfInt (-9)) (fOfInt 12))) ∧ p.pad1.f0 = p.pad0.f0
    ∧ p.padSel = false ∧ p.msoSel = false
    ∧ (∀ j, let base := msoElem s.num s.cfg.msoLen (baseBreakPoints s.num s.cfg.msoLen) j
        storeGet (msoBaseElem s.num s.cfg.msoLen) p.msoBase j = base
          ∧ storeGet (msoBaseElem s.num s.cfg.msoLen) p.msom0 j = base
          ∧ storeGet (msoBaseElem s.num s.cfg.msoLen) p.msom1 j = base)
    ∧ p.padBusy = false ∧ p.padPending = false ∧ p.msoBusy = false ∧ p.msoPending = false ∧ p.padGen = 0 ∧ p.msoGen = 0

/-- 60_exceptions.md R705: an out-of-domain FS or SUB takes its default, CFG_FALLBACK is set, and the core runs if the rest of the
configuration is legal. -/
def Obligations.RatesFallBack : Prop :=
  ∀ req : Cfg,
    let s := State.resetWith req
    s.cfg.fs = (if req.fs = 44100 ∨ req.fs = 48000 then req.fs else 44100)
    ∧ s.cfg.sub = (if 1 ≤ req.sub ∧ req.sub ≤ 256 then req.sub else 8)
    ∧ (s.voice.status.getLsbD 4 = true ↔ s.cfg.fs ≠ req.fs ∨ s.cfg.sub ≠ req.sub)
    ∧ (cfgLegal s.cfg = true → s.voice.halted = false)

/-! ## Random sources -/

/-- 43_noise.md R501: seeds of distinct users are distinct. -/
def Obligations.SeedsAreDistinct : Prop :=
  ∀ vid vid' unit unit' : Nat, vid < 2 ^ 28 → vid' < 2 ^ 28 → unit ≤ 8 → unit' ≤ 8 →
    prngSeed vid unit = BitVec.ofNat 32 (2654435761 * (16 * vid + unit + 1))
    ∧ (prngSeed vid unit = prngSeed vid' unit' → vid = vid' ∧ unit = unit')

/-- 43_noise.md R500, R502: a draw moves the state by the linear congruence and gives `zext(x[31:8])/2^23 - 1`, held exactly: a
finite binary32 of that value, in units of 2^-149. -/
def Obligations.WhiteNoiseIsExact : Prop :=
  ∀ x : BitVec 32,
    let x' := 1013904223#32 + 1664525#32 * x
    (whiteNext x).2 = x' ∧ fFinite (whiteNext x).1 = true
    ∧ fUnits (whiteNext x).1 = 2 ^ 126 * (((x'.extractLsb' 8 24).toNat : Int) - 2 ^ 23)
    ∧ -(2 ^ 149 : Int) ≤ fUnits (whiteNext x).1 ∧ fUnits (whiteNext x).1 ≤ 2 ^ 149 - 2 ^ 126

end
end

