-- ==== Sys2Proof/Laws/Decode.lean ====
section
/-! SUPPORT. The fields of an encoded command, and what its word decodes to. -/

namespace Sys2Proof

theorem field_high (o : BitVec 4) (x : BitVec 28) : (o ++ x).extractLsb' 28 4 = o := by
  apply BitVec.eq_of_getLsbD_eq
  intro i hi
  rw [BitVec.getLsbD_extractLsb', BitVec.getLsbD_append, if_neg (by omega : ¬(28 + i < 28))]
  simp [hi]

theorem field_low (o : BitVec 4) (x : BitVec 28) : (o ++ x).extractLsb' 0 28 = x := by
  apply BitVec.eq_of_getLsbD_eq
  intro i hi
  rw [BitVec.getLsbD_extractLsb', BitVec.getLsbD_append, if_pos (by omega : 0 + i < 28)]
  simp [hi]

theorem field3_high (o : BitVec 4) (a : BitVec 12) (v : BitVec 16) : (o ++ a ++ v).extractLsb' 28 4 = o := by
  apply BitVec.eq_of_getLsbD_eq
  intro i hi
  rw [BitVec.getLsbD_extractLsb', BitVec.getLsbD_append, if_neg (by omega : ¬(28 + i < 16)), BitVec.getLsbD_append,
    if_neg (by omega : ¬(28 + i - 16 < 12)), (by omega : 28 + i - 16 - 12 = i)]
  simp [hi]

theorem field3_mid (o : BitVec 4) (a : BitVec 12) (v : BitVec 16) : (o ++ a ++ v).extractLsb' 16 12 = a := by
  apply BitVec.eq_of_getLsbD_eq
  intro i hi
  rw [BitVec.getLsbD_extractLsb', BitVec.getLsbD_append, if_neg (by omega : ¬(16 + i < 16)), BitVec.getLsbD_append,
    if_pos (by omega : 16 + i - 16 < 12), (by omega : 16 + i - 16 = i)]
  simp [hi]

theorem field3_low (o : BitVec 4) (a : BitVec 12) (v : BitVec 16) : (o ++ a ++ v).extractLsb' 0 16 = v := by
  apply BitVec.eq_of_getLsbD_eq
  intro i hi
  rw [BitVec.getLsbD_extractLsb', BitVec.getLsbD_append, if_pos (by omega : 0 + i < 16)]
  simp [hi]

/-- A WRITE_PARAM word decodes to the row of its address, with its value. -/
theorem decode_write (a : PAddr) (v : RegVal) : decode (Command.write a v).word = .ok (decodeWrite a v) := by
  have h0 : (Command.write a v).word.extractLsb' 28 4 = 1#4 := field3_high _ _ _
  have h1 : (Command.write a v).word.extractLsb' 16 12 = a := field3_mid _ _ _
  have h2 : (Command.write a v).word.extractLsb' 0 16 = v := field3_low _ _ _
  unfold decode
  rw [h0, h1, h2]
  rfl

/-- A READ_PARAM word decodes to the row of its address. -/
theorem decode_read (a : PAddr) : decode (Command.read a).word = .ok (decodeRead a) := by
  have h0 : (Command.read a).word.extractLsb' 28 4 = 2#4 := field3_high _ _ _
  have h1 : (Command.read a).word.extractLsb' 16 12 = a := field3_mid _ _ _
  have h2 : (Command.read a).word.extractLsb' 0 16 = 0 := field3_low _ _ _
  unfold decode
  rw [h0, h1, h2]
  rfl

/-- A SET_FREQUENCY word decodes to its frequency. -/
theorem decode_setFrequency (x : BitVec 28) : decode (Command.setFrequency x).word = .ok (.setFrequency x) := by
  have h0 : (Command.setFrequency x).word.extractLsb' 28 4 = 3#4 := field_high _ _
  have h1 : (Command.setFrequency x).word.extractLsb' 0 28 = x := field_low _ _
  unfold decode
  rw [h0, h1]
  rfl

theorem illegal_opc (k : Fin 6) (x : BitVec 28) :
    (Command.illegal k x).word.extractLsb' 28 4 = BitVec.ofNat 4 (10 + k.val) := field_high _ _

theorem illegal_rest (k : Fin 6) (x : BitVec 28) : (Command.illegal k x).word.extractLsb' 0 28 = x := field_low _ _

/-- A word with a reserved opcode decodes to the row of that opcode, with its other bits. -/
theorem decode_illegal (k : Fin 6) (x : BitVec 28) :
    decode (Command.illegal k x).word =
      .ok (match k with
        | 0 => .illegalA x | 1 => .illegalB x | 2 => .illegalC x | 3 => .illegalD x | 4 => .illegalE x | 5 => .illegalF x) := by
  unfold decode
  rw [illegal_opc, illegal_rest]
  match k with
  | 0 => rfl
  | 1 => rfl
  | 2 => rfl
  | 3 => rfl
  | 4 => rfl
  | 5 => rfl

end Sys2Proof
end

