-- ==== Sys2Proof/Laws/State.lean ====
section
/-! SUPPORT. What each update of the state leaves in each field. -/

namespace Sys2Proof.Machine

@[simp] theorem deliver_cfg (s : State) (rc d a e) : (deliver s rc d a e).cfg = s.cfg := rfl
@[simp] theorem deliver_voice (s : State) (rc d a e) : (deliver s rc d a e).voice = s.voice := rfl
@[simp] theorem deliver_others (s : State) (rc d a e) : (deliver s rc d a e).others = s.others := rfl
@[simp] theorem deliver_program (s : State) (rc d a e) : (deliver s rc d a e).program = s.program := rfl
@[simp] theorem deliver_port (s : State) (rc d a e) : (deliver s rc d a e).port = s.port := rfl
@[simp] theorem deliver_out (s : State) (rc d a e) : (deliver s rc d a e).out = ⟨some (responseWord rc d), a, e⟩ := rfl
@[simp] theorem deliver_num (s : State) (rc d a e) : (deliver s rc d a e).num = s.num := rfl

@[simp] theorem respond_cfg (s : State) (rc d) : (respond s rc d).cfg = s.cfg := rfl
@[simp] theorem respond_voice (s : State) (rc d) : (respond s rc d).voice = s.voice := rfl
@[simp] theorem respond_others (s : State) (rc d) : (respond s rc d).others = s.others := rfl
@[simp] theorem respond_program (s : State) (rc d) : (respond s rc d).program = s.program := rfl
@[simp] theorem respond_port (s : State) (rc d) : (respond s rc d).port = s.port := rfl
@[simp] theorem respond_out (s : State) (rc d) : (respond s rc d).out = ⟨some (responseWord rc d), none, none⟩ := rfl
@[simp] theorem respond_num (s : State) (rc d) : (respond s rc d).num = s.num := rfl

@[simp] theorem raiseStatus_cfg (s : State) (b) : (raiseStatus s b).cfg = s.cfg := rfl
@[simp] theorem raiseStatus_others (s : State) (b) : (raiseStatus s b).others = s.others := rfl
@[simp] theorem raiseStatus_program (s : State) (b) : (raiseStatus s b).program = s.program := rfl
@[simp] theorem raiseStatus_port (s : State) (b) : (raiseStatus s b).port = s.port := rfl
@[simp] theorem raiseStatus_out (s : State) (b) : (raiseStatus s b).out = s.out := rfl
@[simp] theorem raiseStatus_status (s : State) (b) :
    (raiseStatus s b).voice.status = s.voice.status ||| statusMask b := rfl
@[simp] theorem raiseStatus_regs (s : State) (b) : (raiseStatus s b).voice.regs = s.voice.regs := rfl
@[simp] theorem raiseStatus_halted (s : State) (b) : (raiseStatus s b).voice.halted = s.voice.halted := rfl

@[simp] theorem setReg_cfg (s : State) (k v) : (setReg s k v).cfg = s.cfg := by unfold setReg; split <;> rfl
@[simp] theorem setReg_others (s : State) (k v) : (setReg s k v).others = s.others := by unfold setReg; split <;> rfl
@[simp] theorem setReg_port (s : State) (k v) : (setReg s k v).port = s.port := by unfold setReg; split <;> rfl
@[simp] theorem setReg_out (s : State) (k v) : (setReg s k v).out = s.out := by unfold setReg; split <;> rfl
@[simp] theorem setReg_num (s : State) (k v) : (setReg s k v).num = s.num := by unfold setReg; split <;> rfl

/-- A register write changes nothing of the voice but its registers. -/
theorem setReg_voice (s : State) (k v) : (setReg s k v).voice = { s.voice with regs := (setReg s k v).voice.regs } := by
  unfold setReg; split <;> rfl

/-- A register write changes nothing of the program but its registers. -/
theorem setReg_program (s : State) (k v) :
    (setReg s k v).program = { s.program with regs := (setReg s k v).program.regs } := by
  unfold setReg; split <;> rfl

@[simp] theorem padStart_cfg (s : State) : (padStart s).cfg = s.cfg := rfl
@[simp] theorem padStart_voice (s : State) : (padStart s).voice = s.voice := rfl
@[simp] theorem padStart_others (s : State) : (padStart s).others = s.others := rfl
@[simp] theorem padStart_port (s : State) : (padStart s).port = s.port := rfl
@[simp] theorem padStart_busy (s : State) : (padStart s).program.padBusy = true := rfl
@[simp] theorem padStart_pending (s : State) : (padStart s).program.padPending = s.program.padPending := rfl
@[simp] theorem padStart_snap (s : State) : (padStart s).program.padSnap = padSnapOf s := rfl
@[simp] theorem padStart_regs (s : State) : (padStart s).program.regs = s.program.regs := rfl
@[simp] theorem padStart_pad0 (s : State) : (padStart s).program.pad0 = s.program.pad0 := rfl
@[simp] theorem padStart_pad1 (s : State) : (padStart s).program.pad1 = s.program.pad1 := rfl
@[simp] theorem padStart_padSel (s : State) : (padStart s).program.padSel = s.program.padSel := rfl
@[simp] theorem padStart_padGen (s : State) : (padStart s).program.padGen = s.program.padGen := rfl

@[simp] theorem msoStart_cfg (s : State) : (msoStart s).cfg = s.cfg := rfl
@[simp] theorem msoStart_voice (s : State) : (msoStart s).voice = s.voice := rfl
@[simp] theorem msoStart_others (s : State) : (msoStart s).others = s.others := rfl
@[simp] theorem msoStart_port (s : State) : (msoStart s).port = s.port := rfl
@[simp] theorem msoStart_busy (s : State) : (msoStart s).program.msoBusy = true := rfl
@[simp] theorem msoStart_pending (s : State) : (msoStart s).program.msoPending = s.program.msoPending := rfl
@[simp] theorem msoStart_snap (s : State) : (msoStart s).program.msoSnap = msoSnapOf s := rfl
@[simp] theorem msoStart_regs (s : State) : (msoStart s).program.regs = s.program.regs := rfl
@[simp] theorem msoStart_msom0 (s : State) : (msoStart s).program.msom0 = s.program.msom0 := rfl
@[simp] theorem msoStart_msom1 (s : State) : (msoStart s).program.msom1 = s.program.msom1 := rfl
@[simp] theorem msoStart_msoSel (s : State) : (msoStart s).program.msoSel = s.program.msoSel := rfl
@[simp] theorem msoStart_msoGen (s : State) : (msoStart s).program.msoGen = s.program.msoGen := rfl

@[simp] theorem padRequest_cfg (s : State) : (padRequest s).cfg = s.cfg := by unfold padRequest; split <;> rfl
@[simp] theorem padRequest_voice (s : State) : (padRequest s).voice = s.voice := by unfold padRequest; split <;> rfl
@[simp] theorem padRequest_others (s : State) : (padRequest s).others = s.others := by unfold padRequest; split <;> rfl
@[simp] theorem padRequest_port (s : State) : (padRequest s).port = s.port := by unfold padRequest; split <;> rfl
@[simp] theorem padRequest_regs (s : State) : (padRequest s).program.regs = s.program.regs := by
  unfold padRequest; split <;> rfl

@[simp] theorem msoRequest_cfg (s : State) : (msoRequest s).cfg = s.cfg := by unfold msoRequest; split <;> rfl
@[simp] theorem msoRequest_voice (s : State) : (msoRequest s).voice = s.voice := by unfold msoRequest; split <;> rfl
@[simp] theorem msoRequest_others (s : State) : (msoRequest s).others = s.others := by unfold msoRequest; split <;> rfl
@[simp] theorem msoRequest_port (s : State) : (msoRequest s).port = s.port := by unfold msoRequest; split <;> rfl
@[simp] theorem msoRequest_regs (s : State) : (msoRequest s).program.regs = s.program.regs := by
  unfold msoRequest; split <;> rfl

@[simp] theorem builderCountdown_regs (p : Program) : (builderCountdown p).regs = p.regs := rfl
@[simp] theorem builderCountdown_padBusy (p : Program) : (builderCountdown p).padBusy = p.padBusy := rfl
@[simp] theorem builderCountdown_msoBusy (p : Program) : (builderCountdown p).msoBusy = p.msoBusy := rfl
@[simp] theorem builderDefer_regs (p : Program) : (builderDefer p).regs = p.regs := rfl

/-- A PAD build writes the bank that is not selected. -/
theorem padSwapped_pad0 (s : State) :
    (padSwapped s).pad0 = if s.program.padSel then padBuild s.num s.cfg.fs s.program.padSnap else s.program.pad0 := rfl
theorem padSwapped_pad1 (s : State) :
    (padSwapped s).pad1 = if s.program.padSel then s.program.pad1 else padBuild s.num s.cfg.fs s.program.padSnap := rfl
@[simp] theorem padSwapped_padSel (s : State) : (padSwapped s).padSel = !s.program.padSel := rfl
@[simp] theorem padSwapped_padGen (s : State) : (padSwapped s).padGen = s.program.padGen + 1 := rfl
@[simp] theorem padSwapped_padBusy (s : State) : (padSwapped s).padBusy = false := rfl
@[simp] theorem padSwapped_regs (s : State) : (padSwapped s).regs = s.program.regs := rfl

/-- An MSO build writes the bank that is not selected. -/
theorem msoSwapped_msom0 (s : State) :
    (msoSwapped s).msom0 = if s.program.msoSel then
      storeOfList (msoBaseElem s.num s.cfg.msoLen) 0 (msoTable s.num s.cfg.msoLen s.program.msoSnap)
    else s.program.msom0 := rfl
theorem msoSwapped_msom1 (s : State) :
    (msoSwapped s).msom1 = if s.program.msoSel then s.program.msom1
    else storeOfList (msoBaseElem s.num s.cfg.msoLen) 0 (msoTable s.num s.cfg.msoLen s.program.msoSnap) := rfl
@[simp] theorem msoSwapped_msoSel (s : State) : (msoSwapped s).msoSel = !s.program.msoSel := rfl
@[simp] theorem msoSwapped_msoGen (s : State) : (msoSwapped s).msoGen = s.program.msoGen + 1 := rfl
@[simp] theorem msoSwapped_msoBusy (s : State) : (msoSwapped s).msoBusy = false := rfl
@[simp] theorem msoSwapped_regs (s : State) : (msoSwapped s).regs = s.program.regs := rfl

end Sys2Proof.Machine
end

