-- ==== Sys2Proof/Laws/Store.lean ====
section
/-! SUPPORT. What the sparse stores do: reading after writing, and the canonical form. -/

namespace Sys2Proof.Machine

variable {α : Type}

theorem storeGet_erase_self (d : Nat → α) (m : List (Nat × α)) (k : Nat) : storeGet d (storeErase m k) k = d k := by
  induction m with
  | nil => rfl
  | cons e m ih =>
    obtain ⟨j, v⟩ := e
    by_cases h : j = k
    · simp [storeErase, h, ih]
    · simp [storeErase, storeGet, h, ih]

theorem storeGet_erase_other (d : Nat → α) (m : List (Nat × α)) {k l : Nat} (hne : l ≠ k) :
    storeGet d (storeErase m k) l = storeGet d m l := by
  induction m with
  | nil => rfl
  | cons e m ih =>
    obtain ⟨j, v⟩ := e
    by_cases h : j = k
    · simp [storeErase, storeGet, h, ih, Ne.symm hne]
    · simp [storeErase, storeGet, h, ih]

theorem storeGet_insert_self (d : Nat → α) (m : List (Nat × α)) (k : Nat) (v : α) :
    storeGet d (storeInsert m k v) k = v := by
  induction m with
  | nil => simp [storeInsert, storeGet]
  | cons e m ih =>
    obtain ⟨j, w⟩ := e
    simp only [storeInsert]
    split
    · simp [storeGet]
    · split
      · simp [storeGet]
      · next h => simp [storeGet, h, ih]

theorem storeGet_insert_other (d : Nat → α) (m : List (Nat × α)) {k l : Nat} (v : α) (hne : l ≠ k) :
    storeGet d (storeInsert m k v) l = storeGet d m l := by
  induction m with
  | nil => simp [storeInsert, storeGet, Ne.symm hne]
  | cons e m ih =>
    obtain ⟨j, w⟩ := e
    simp only [storeInsert]
    split
    · simp [storeGet, Ne.symm hne]
    · split
      · next h => simp [storeGet, h, Ne.symm hne]
      · simp [storeGet, ih]

/-- What was written is what is read. -/
theorem storeGet_set_self [DecidableEq α] (d : Nat → α) (m : List (Nat × α)) (k : Nat) (v : α) :
    storeGet d (storeSet d m k v) k = v := by
  unfold storeSet
  split
  · next h => rw [storeGet_erase_self, h]
  · exact storeGet_insert_self d m k v

/-- A write leaves every other index as it was. -/
theorem storeGet_set_other [DecidableEq α] (d : Nat → α) (m : List (Nat × α)) {k l : Nat} (v : α) (hne : l ≠ k) :
    storeGet d (storeSet d m k v) l = storeGet d m l := by
  unfold storeSet
  split
  · exact storeGet_erase_other d m hne
  · exact storeGet_insert_other d m v hne

theorem storeRises_mono {lo hi : Nat} (h : hi ≤ lo) (m : List (Nat × α)) (hr : storeRises lo m = true) : storeRises hi m = true := by
  cases m with
  | nil => rfl
  | cons e m =>
    simp only [storeRises, Bool.and_eq_true, decide_eq_true_eq] at hr ⊢
    exact ⟨le_trans h hr.1, hr.2⟩

theorem storeRises_erase {lo : Nat} (m : List (Nat × α)) (k : Nat) (hr : storeRises lo m = true) :
    storeRises lo (storeErase m k) = true := by
  induction m generalizing lo with
  | nil => rfl
  | cons e m ih =>
    obtain ⟨j, v⟩ := e
    simp only [storeRises, Bool.and_eq_true, decide_eq_true_eq] at hr
    simp only [storeErase]
    split
    · exact storeRises_mono (by omega) _ (ih hr.2)
    · simp only [storeRises, Bool.and_eq_true, decide_eq_true_eq]
      exact ⟨hr.1, ih hr.2⟩

theorem storeRises_insert {lo : Nat} (m : List (Nat × α)) {k : Nat} (v : α) (hk : lo ≤ k) (hr : storeRises lo m = true) :
    storeRises lo (storeInsert m k v) = true := by
  induction m generalizing lo with
  | nil => simp [storeInsert, storeRises, hk]
  | cons e m ih =>
    obtain ⟨j, w⟩ := e
    simp only [storeRises, Bool.and_eq_true, decide_eq_true_eq] at hr
    simp only [storeInsert]
    split
    · simp only [storeRises, Bool.and_eq_true, decide_eq_true_eq]
      exact ⟨hk, by omega, hr.2⟩
    · split
      · next h =>
        subst h
        simp only [storeRises, Bool.and_eq_true, decide_eq_true_eq]
        exact hr
      · simp only [storeRises, Bool.and_eq_true, decide_eq_true_eq]
        exact ⟨hr.1, ih (by omega) hr.2⟩

theorem storeErase_all {p : Nat × α → Bool} (m : List (Nat × α)) (k : Nat) (h : m.all p = true) :
    (storeErase m k).all p = true := by
  induction m with
  | nil => rfl
  | cons e m ih =>
    simp only [List.all_cons, Bool.and_eq_true] at h
    simp only [storeErase]
    split
    · exact ih h.2
    · simp only [List.all_cons, Bool.and_eq_true]
      exact ⟨h.1, ih h.2⟩

theorem storeInsert_all {p : Nat × α → Bool} (m : List (Nat × α)) {k : Nat} {v : α} (hp : p (k, v) = true)
    (h : m.all p = true) : (storeInsert m k v).all p = true := by
  induction m with
  | nil => simp [storeInsert, hp]
  | cons e m ih =>
    obtain ⟨j, w⟩ := e
    simp only [List.all_cons, Bool.and_eq_true] at h
    simp only [storeInsert]
    split
    · simp only [List.all_cons, Bool.and_eq_true]
      exact ⟨hp, h.1, h.2⟩
    · split
      · simp only [List.all_cons, Bool.and_eq_true]
        exact ⟨hp, h.2⟩
      · simp only [List.all_cons, Bool.and_eq_true]
        exact ⟨h.1, ih h.2⟩

/-- A property of every listed entry that the written one has is kept by a write. -/
theorem storeSet_all [DecidableEq α] (d : Nat → α) {p : Nat × α → Bool} (m : List (Nat × α)) {k : Nat} {v : α}
    (hp : p (k, v) = true) (h : m.all p = true) : (storeSet d m k v).all p = true := by
  unfold storeSet
  split
  · exact storeErase_all m k h
  · exact storeInsert_all m hp h

/-- A write keeps the canonical form. -/
theorem storeWf_set [DecidableEq α] (d : Nat → α) (m : List (Nat × α)) (k : Nat) (v : α) (h : storeWf d m = true) :
    storeWf d (storeSet d m k v) = true := by
  simp only [storeWf, Bool.and_eq_true] at h ⊢
  unfold storeSet
  split
  · exact ⟨storeRises_erase m k h.1, storeErase_all m k h.2⟩
  · next hv => exact ⟨storeRises_insert m v (Nat.zero_le k) h.1, storeInsert_all m (by simp [hv]) h.2⟩

theorem storeOfList_rises [DecidableEq α] (d : Nat → α) (vs : List α) (k : Nat) : storeRises k (storeOfList d k vs) = true := by
  induction vs generalizing k with
  | nil => rfl
  | cons v vs ih =>
    simp only [storeOfList]
    split
    · exact storeRises_mono (Nat.le_succ k) _ (ih (k + 1))
    · simp only [storeRises, Bool.and_eq_true, decide_eq_true_eq]
      exact ⟨le_refl k, ih (k + 1)⟩

theorem storeOfList_listed [DecidableEq α] (d : Nat → α) (vs : List α) (k : Nat) :
    ∀ e ∈ storeOfList d k vs, e.2 ≠ d e.1 ∧ k ≤ e.1 ∧ e.1 < k + vs.length := by
  induction vs generalizing k with
  | nil => simp [storeOfList]
  | cons v vs ih =>
    intro e he
    simp only [storeOfList] at he
    split at he
    · obtain ⟨h1, h2, h3⟩ := ih (k + 1) e he
      simp only [List.length_cons]
      exact ⟨h1, by omega, by omega⟩
    · next hv =>
      rcases List.mem_cons.mp he with rfl | he
      · simp [hv]
      · obtain ⟨h1, h2, h3⟩ := ih (k + 1) e he
        simp only [List.length_cons]
        exact ⟨h1, by omega, by omega⟩

/-- The listed part of a list of values is in canonical form. -/
theorem storeWf_ofList [DecidableEq α] (d : Nat → α) (vs : List α) : storeWf d (storeOfList d 0 vs) = true := by
  simp only [storeWf, Bool.and_eq_true, List.all_eq_true, decide_eq_true_eq]
  exact ⟨storeOfList_rises d vs 0, fun e he => (storeOfList_listed d vs 0 e he).1⟩

/-- Reading the listed part of a list of values gives the values, and what an unlisted index reads as beyond them. -/
theorem storeGet_ofList [DecidableEq α] (d : Nat → α) (vs : List α) (k i : Nat) :
    storeGet d (storeOfList d k vs) (k + i) = vs.getD i (d (k + i)) := by
  induction vs generalizing k i with
  | nil => simp [storeOfList, storeGet]
  | cons v vs ih =>
    simp only [storeOfList]
    cases i with
    | zero =>
      split
      · next h =>
        have hge : ∀ m : List (Nat × α), storeRises (k + 1) m = true → storeGet d m k = d k := by
          intro m
          induction m with
          | nil => intro _; rfl
          | cons e m ihm =>
            intro hr
            simp only [storeRises, Bool.and_eq_true, decide_eq_true_eq] at hr
            have hne : e.1 ≠ k := by omega
            simp only [storeGet, hne, if_false]
            exact ihm (storeRises_mono (by omega) _ hr.2)
        simp [hge _ (storeOfList_rises d vs (k + 1)), h]
      · simp [storeGet]
    | succ i =>
      have h := ih (k + 1) i
      have e : k + 1 + i = k + (i + 1) := by omega
      rw [e] at h
      split
      · simpa using h
      · have hne : k ≠ k + (i + 1) := by omega
        simp only [storeGet, hne, if_false]
        simpa using h

theorem storeRises_append (m : List (Nat × α)) (n : List (Nat × α)) {lo mid : Nat} (hlo : lo ≤ mid) (hm : storeRises lo m = true)
    (hb : ∀ e ∈ m, e.1 < mid) (hn : storeRises mid n = true) : storeRises lo (m ++ n) = true := by
  induction m generalizing lo with
  | nil => exact storeRises_mono hlo n hn
  | cons e m ih =>
    simp only [storeRises, List.cons_append, Bool.and_eq_true, decide_eq_true_eq] at hm ⊢
    have he : e.1 < mid := hb e List.mem_cons_self
    exact ⟨hm.1, ih (by omega) hm.2 fun x hx => hb x (List.mem_cons_of_mem e hx)⟩

theorem storeRises_filter_ge (m : List (Nat × α)) (n lo : Nat) (hm : storeRises lo m = true) :
    storeRises (max lo n) (m.filter fun e => n ≤ e.1) = true := by
  induction m generalizing lo with
  | nil => rfl
  | cons e m ih =>
    obtain ⟨j, v⟩ := e
    simp only [storeRises, Bool.and_eq_true, decide_eq_true_eq] at hm
    by_cases h : n ≤ j
    · simp only [List.filter_cons, h, decide_true, if_true, storeRises, Bool.and_eq_true, decide_eq_true_eq]
      exact ⟨by omega, storeRises_mono (by omega) _ (ih (j + 1) hm.2)⟩
    · simp only [List.filter_cons, h, decide_false]
      exact storeRises_mono (by omega) _ (ih (j + 1) hm.2)

/-- Writing a run of values at index 0 keeps the canonical form. -/
theorem storeWf_setPrefix [DecidableEq α] (d : Nat → α) (m : List (Nat × α)) (vs : List α) (h : storeWf d m = true) :
    storeWf d (storeSetPrefix d m vs) = true := by
  simp only [storeWf, Bool.and_eq_true, List.all_eq_true, decide_eq_true_eq] at h ⊢
  refine ⟨?_, ?_⟩
  · refine storeRises_append _ _ (Nat.zero_le vs.length) (storeOfList_rises d vs 0) ?_ ?_
    · intro e he
      have := (storeOfList_listed d vs 0 e he).2.2
      omega
    · exact storeRises_mono (by omega) _ (storeRises_filter_ge m vs.length 0 h.1)
  · intro e he
    rcases List.mem_append.mp he with he | he
    · exact (storeOfList_listed d vs 0 e he).1
    · exact h.2 e (List.mem_filter.mp he).1

theorem storeGet_congr (d e : Nat → α) (m : List (Nat × α)) (i : Nat) (h : d i = e i) : storeGet d m i = storeGet e m i := by
  induction m with
  | nil => exact h
  | cons x m ih => simp only [storeGet, ih]

theorem storeGet_append (d : Nat → α) (m n : List (Nat × α)) (i : Nat) :
    storeGet d (m ++ n) i = storeGet (storeGet d n) m i := by
  induction m with
  | nil => rfl
  | cons x m ih => simp only [List.cons_append, storeGet, ih]

theorem storeGet_unlisted (d : Nat → α) (m : List (Nat × α)) (i : Nat) (h : ∀ e ∈ m, e.1 ≠ i) : storeGet d m i = d i := by
  induction m with
  | nil => rfl
  | cons x m ih =>
    have hx : x.1 ≠ i := h x List.mem_cons_self
    simp only [storeGet, hx, if_false]
    exact ih fun e he => h e (List.mem_cons_of_mem x he)

theorem storeGet_filter_ge (d : Nat → α) (m : List (Nat × α)) {n i : Nat} (h : n ≤ i) :
    storeGet d (m.filter fun e => n ≤ e.1) i = storeGet d m i := by
  induction m with
  | nil => rfl
  | cons x m ih =>
    obtain ⟨j, v⟩ := x
    by_cases hj : n ≤ j
    · simp only [List.filter_cons, hj, decide_true, if_true, storeGet, ih]
    · have hne : j ≠ i := by omega
      simp only [List.filter_cons, hj, decide_false, storeGet, hne, if_false]
      exact ih

/-- After writing a run of values, an index inside it reads its value. -/
theorem storeGet_setPrefix_lt [DecidableEq α] (d : Nat → α) (m : List (Nat × α)) (vs : List α) (i : Nat) (h : i < vs.length) :
    storeGet d (storeSetPrefix d m vs) i = vs.getD i (d i) := by
  have hd : storeGet d (m.filter fun e => vs.length ≤ e.1) i = d i := by
    apply storeGet_unlisted
    intro e he
    have := (List.mem_filter.mp he).2
    simp only [decide_eq_true_eq] at this
    omega
  rw [storeSetPrefix, storeGet_append, storeGet_congr _ d _ i hd]
  simpa using storeGet_ofList d vs 0 i

/-- After writing a run of values, an index above it reads as before. -/
theorem storeGet_setPrefix_ge [DecidableEq α] (d : Nat → α) (m : List (Nat × α)) (vs : List α) (i : Nat) (h : vs.length ≤ i) :
    storeGet d (storeSetPrefix d m vs) i = storeGet d m i := by
  rw [storeSetPrefix, storeGet_append, storeGet_unlisted _ _ i, storeGet_filter_ge d m h]
  intro e he
  have := (storeOfList_listed d vs 0 e he).2.2
  omega

end Sys2Proof.Machine
end

