-- ==== Sys2Proof/Laws/Ops.lean ====
section
/-! SUPPORT. What each shared operation can do. -/

namespace Sys2Proof.Machine

/-- What was written to a register is what it holds. -/
theorem regAt_setReg_self (s : State) (k : Nat) (v : RegVal) : regAt (setReg s k v) k = v := by
  unfold regAt setReg
  by_cases h : isShared k
  · simp only [h, if_true]
    exact storeGet_set_self _ _ _ _
  · simp only [h]
    exact storeGet_set_self _ _ _ _

/-- A register write leaves every other register as it was. -/
theorem regAt_setReg_other (s : State) {k l : Nat} (v : RegVal) (hne : l ≠ k) : regAt (setReg s k v) l = regAt s l := by
  unfold regAt setReg
  by_cases h : isShared k <;> by_cases h' : isShared l <;> simp only [h, h', if_true]
  · exact storeGet_set_other _ _ _ hne
  · rfl
  · rfl
  · exact storeGet_set_other _ _ _ hne

/-- A register reads the same in states with the same registers and configuration. -/
theorem regAt_congr {s t : State} (hc : t.cfg = s.cfg) (hv : t.voice.regs = s.voice.regs) (hp : t.program.regs = s.program.regs)
    (k : Nat) : regAt t k = regAt s k := by
  unfold regAt
  rw [hc, hv, hp]

theorem unlessHalted_of_running {s : State} (h : s.voice.halted = false)
    (run : State → Host.Outcome State Fault Refusal) : unlessHalted s run = run s := by
  simp [unlessHalted, h]

theorem unlessHalted_of_halted {s : State} (h : s.voice.halted = true)
    (run : State → Host.Outcome State Fault Refusal) : unlessHalted s run = .next (respond s .errConfig 0) := by
  simp [unlessHalted, h]

theorem runWrite_of_running {s : State} (h : s.voice.halted = false) (a : PAddr) (v : RegVal) :
    runWrite a v s = .next (writeParam s a v) := unlessHalted_of_running h _

theorem runRead_of_running {s : State} (h : s.voice.halted = false) (a : PAddr) :
    runRead a s = .next (readParam s a) := unlessHalted_of_running h _

theorem writeParam_of_unmapped {s : State} {a : PAddr} (h : regInfo s.cfg.msoLen a = none) (v : RegVal) :
    writeParam s a v = rejectCommand s .badAddr := by simp [writeParam, h]

theorem writeParam_of_ro {s : State} {a : PAddr} {r : RegInfo} (h : regInfo s.cfg.msoLen a = some r) (ha : r.access = .ro)
    (v : RegVal) : writeParam s a v = rejectCommand s .roWrite := by simp [writeParam, h, ha]

theorem writeParam_of_w1c {s : State} {a : PAddr} {r : RegInfo} (h : regInfo s.cfg.msoLen a = some r) (ha : r.access = .w1c)
    (v : RegVal) :
    writeParam s a v = respond { s with voice := { s.voice with status := statusClear s.voice.status v } } .ok 0 := by
  simp [writeParam, h, ha]

theorem writeParam_of_rw {s : State} {a : PAddr} {r : RegInfo} (h : regInfo s.cfg.msoLen a = some r) (ha : r.access = .rw)
    (v : RegVal) :
    writeParam s a v = respond (storeParam s a (domainClamp s.cfg.msoLen r.dom v))
      (if domainClamp s.cfg.msoLen r.dom v = v.toInt then .ok else .okClamped) 0 := by
  simp [writeParam, h, ha]

/-- Everything a write can do. -/
theorem writeParam_cases (s : State) (a : PAddr) (v : RegVal) :
    (regInfo s.cfg.msoLen a = none ∧ writeParam s a v = rejectCommand s .badAddr)
    ∨ (∃ r, regInfo s.cfg.msoLen a = some r ∧ r.access = .ro ∧ writeParam s a v = rejectCommand s .roWrite)
    ∨ (∃ r, regInfo s.cfg.msoLen a = some r ∧ r.access = .w1c ∧
        writeParam s a v = respond { s with voice := { s.voice with status := statusClear s.voice.status v } } .ok 0)
    ∨ (∃ r, regInfo s.cfg.msoLen a = some r ∧ r.access = .rw ∧
        writeParam s a v = respond (storeParam s a (domainClamp s.cfg.msoLen r.dom v))
          (if domainClamp s.cfg.msoLen r.dom v = v.toInt then .ok else .okClamped) 0) := by
  cases h : regInfo s.cfg.msoLen a with
  | none => exact .inl ⟨rfl, writeParam_of_unmapped h v⟩
  | some r =>
    cases ha : r.access with
    | rw => exact .inr (.inr (.inr ⟨r, rfl, ha, writeParam_of_rw h ha v⟩))
    | ro => exact .inr (.inl ⟨r, rfl, ha, writeParam_of_ro h ha v⟩)
    | w1c => exact .inr (.inr (.inl ⟨r, rfl, ha, writeParam_of_w1c h ha v⟩))

theorem readParam_of_unmapped {s : State} {a : PAddr} (h : regInfo s.cfg.msoLen a = none) :
    readParam s a = rejectCommand s .badAddr := by simp [readParam, h]

theorem readParam_of_mapped {s : State} {a : PAddr} {r : RegInfo} (h : regInfo s.cfg.msoLen a = some r) :
    readParam s a = respond s .ok (readView s a) := by simp [readParam, h]

/-- Everything a read can do. -/
theorem readParam_cases (s : State) (a : PAddr) :
    (regInfo s.cfg.msoLen a = none ∧ readParam s a = rejectCommand s .badAddr)
    ∨ (∃ r, regInfo s.cfg.msoLen a = some r ∧ readParam s a = respond s .ok (readView s a)) := by
  cases h : regInfo s.cfg.msoLen a with
  | none => exact .inl ⟨rfl, readParam_of_unmapped h⟩
  | some r => exact .inr ⟨r, rfl, readParam_of_mapped h⟩

theorem padRequest_of_busy {s : State} (h : s.program.padBusy = true) :
    padRequest s = { s with program := { s.program with padPending := true } } := by simp [padRequest, h]

theorem padRequest_of_idle {s : State} (h : s.program.padBusy = false) : padRequest s = padStart s := by simp [padRequest, h]

theorem msoRequest_of_busy {s : State} (h : s.program.msoBusy = true) :
    msoRequest s = { s with program := { s.program with msoPending := true } } := by simp [msoRequest, h]

theorem msoRequest_of_idle {s : State} (h : s.program.msoBusy = false) : msoRequest s = msoStart s := by simp [msoRequest, h]

/-- A table read inside the table gives its element, and outside it nothing. -/
theorem tableRead_cases (d : Nat → F32) (t : List (Nat × F32)) (len i : Nat) :
    (i < len ∧ tableRead d t len i = some (storeGet d t i)) ∨ (len ≤ i ∧ tableRead d t len i = none) := by
  by_cases h : i < len
  · exact .inl ⟨h, by simp [tableRead, h]⟩
  · exact .inr ⟨by omega, by simp [tableRead, h]⟩

/-- Everything a change of the current core can do. -/
theorem focus_cases (s : State) (core : Nat) :
    (s.voice.core = core ∧ focus s core = some s)
    ∨ (s.voice.core ≠ core ∧ findVoice core s.others = none ∧ focus s core = none)
    ∨ (∃ v, s.voice.core ≠ core ∧ findVoice core s.others = some v ∧
        focus s core = some { s with voice := v, others := insertVoice s.voice (dropVoice core s.others) }) := by
  by_cases h : s.voice.core = core
  · exact .inl ⟨h, by simp [focus, h]⟩
  · cases hf : findVoice core s.others with
    | none => exact .inr (.inl ⟨h, rfl, by simp [focus, h, hf]⟩)
    | some v => exact .inr (.inr ⟨v, h, rfl, by simp [focus, h, hf]⟩)

theorem findVoice_core {core : Nat} {vs : List Voice} {v : Voice} (h : findVoice core vs = some v) : v.core = core := by
  induction vs with
  | nil => simp [findVoice] at h
  | cons x xs ih =>
    simp only [findVoice] at h
    split at h
    · next hx =>
      cases h
      exact hx
    · exact ih h

theorem findVoice_mem {core : Nat} {vs : List Voice} {v : Voice} (h : findVoice core vs = some v) : v ∈ vs := by
  induction vs with
  | nil => simp [findVoice] at h
  | cons x xs ih =>
    simp only [findVoice] at h
    split at h
    · cases h
      exact List.mem_cons_self
    · exact List.mem_cons_of_mem x (ih h)

theorem mem_insertVoice {v x : Voice} {vs : List Voice} : x ∈ insertVoice v vs ↔ x = v ∨ x ∈ vs := by
  induction vs with
  | nil => simp [insertVoice]
  | cons y ys ih =>
    simp only [insertVoice]
    split
    · simp
    · simp only [List.mem_cons, ih]
      exact or_left_comm

theorem mem_of_mem_dropVoice {core : Nat} {vs : List Voice} {x : Voice} (h : x ∈ dropVoice core vs) : x ∈ vs := by
  induction vs with
  | nil => simp [dropVoice] at h
  | cons y ys ih =>
    simp only [dropVoice] at h
    split at h
    · exact List.mem_cons_of_mem y h
    · rcases List.mem_cons.mp h with rfl | h
      · exact List.mem_cons_self
      · exact List.mem_cons_of_mem y (ih h)

end Sys2Proof.Machine
end

