-- ==== Sys2Proof/Laws/Render.lean ====
section
/-! SUPPORT. What the parts of a RENDER_SAMPLE change, and when they give a sample. -/

namespace Sys2Proof.Machine

theorem onlyRendered_refl (s : State) : onlyRendered s s := rfl

theorem onlyRendered_trans {s t u : State} (h1 : onlyRendered s t) (h2 : onlyRendered t u) : onlyRendered s u := by
  unfold onlyRendered at *
  rw [h2, h1]

theorem onlyRendered_cfg {s t : State} (h : onlyRendered s t) : t.cfg = s.cfg := by rw [h]
theorem onlyRendered_num {s t : State} (h : onlyRendered s t) : t.num = s.num := by rw [h]; rfl
theorem onlyRendered_others {s t : State} (h : onlyRendered s t) : t.others = s.others := by rw [h]
theorem onlyRendered_program {s t : State} (h : onlyRendered s t) : t.program = s.program := by rw [h]
theorem onlyRendered_port {s t : State} (h : onlyRendered s t) : t.port = s.port := by rw [h]
theorem onlyRendered_core {s t : State} (h : onlyRendered s t) : t.voice.core = s.voice.core := by rw [h]
theorem onlyRendered_voiceId {s t : State} (h : onlyRendered s t) : t.voice.voiceId = s.voice.voiceId := by rw [h]
theorem onlyRendered_regs {s t : State} (h : onlyRendered s t) : t.voice.regs = s.voice.regs := by rw [h]
theorem onlyRendered_halted {s t : State} (h : onlyRendered s t) : t.voice.halted = s.voice.halted := by rw [h]
theorem onlyRendered_voiceFreq {s t : State} (h : onlyRendered s t) : t.voice.voiceFreq = s.voice.voiceFreq := by rw [h]
theorem onlyRendered_inUse {s t : State} (h : onlyRendered s t) : t.voice.inUse = s.voice.inUse := by rw [h]
theorem onlyRendered_active {s t : State} (h : onlyRendered s t) : t.voice.active = s.voice.active := by rw [h]
theorem onlyRendered_waits {s t : State} (h : onlyRendered s t) : t.voice.waits = s.voice.waits := by rw [h]
theorem onlyRendered_lat {s t : State} (h : onlyRendered s t) : t.voice.lat = s.voice.lat := by rw [h]
theorem onlyRendered_lfo {s t : State} (h : onlyRendered s t) : t.voice.lfo = s.voice.lfo := by rw [h]
theorem onlyRendered_adsr {s t : State} (h : onlyRendered s t) : t.voice.adsr = s.voice.adsr := by rw [h]

theorem onlyRendered_regAt {s t : State} (h : onlyRendered s t) (k : Nat) : regAt t k = regAt s k :=
  regAt_congr (onlyRendered_cfg h) (onlyRendered_regs h) (by rw [onlyRendered_program h]) k

theorem onlyRendered_enabled {s t : State} (h : onlyRendered s t) (u : Nat) : enabled t u = enabled s u := by
  unfold enabled regInt
  rw [onlyRendered_regAt h]

/-- `enabled` says that the unit's first register is 1. -/
theorem enabled_iff (s : State) (u : Nat) : enabled s u = true ↔ regAt s u = 1 := by
  unfold enabled regInt rEnable
  rw [Nat.add_zero, beq_iff_eq]
  exact ⟨fun h => BitVec.eq_of_toInt_eq h, fun h => by rw [h]; rfl⟩

theorem not_enabled_iff (s : State) (u : Nat) : enabled s u = false ↔ regAt s u ≠ 1 := by
  rw [← Bool.not_eq_true, Ne, not_iff_not]
  exact enabled_iff s u

/-- OSC1's part changes OSC1 only. -/
theorem renderOsc1_state (s : State) :
    ∃ x, (renderOsc1 s).2 = { s with voice := { s.voice with osc1 := x } } := by
  unfold renderOsc1; split <;> exact ⟨_, rfl⟩

theorem renderOsc1_off {s : State} (h : enabled s uOsc1 = false) :
    renderOsc1 s = (fOfInt 0, { s with voice := { s.voice with osc1 := { s.voice.osc1 with wrapped := false } } }) := by
  unfold renderOsc1; rw [if_neg (by simp [h])]

/-- OSC2's part changes OSC2 only. -/
theorem renderOsc2_state (s : State) :
    ∃ x, (renderOsc2 s).2 = { s with voice := { s.voice with osc2 := x } } := by
  unfold renderOsc2; split <;> exact ⟨_, rfl⟩

theorem renderOsc2_off {s : State} (h : enabled s uOsc2 = false) :
    renderOsc2 s = (fOfInt 0, { s with voice := { s.voice with osc2 := { s.voice.osc2 with wrapped := false } } }) := by
  unfold renderOsc2; rw [if_neg (by simp [h])]

/-- The noise generator's part changes the noise generator only. -/
theorem renderNoise_state (s : State) :
    ∃ x, (renderNoise s).2 = { s with voice := { s.voice with noise := x } } := by
  unfold renderNoise; split <;> exact ⟨_, rfl⟩

theorem renderNoise_off {s : State} (h : enabled s uNoise = false) : renderNoise s = (fOfInt 0, s) := by
  unfold renderNoise; rw [if_neg (by simp [h])]

/-- The string's part changes the string only. -/
theorem renderKs_state (s : State) :
    ∃ x, (renderKs s).2 = { s with voice := { s.voice with ks := x } } := by
  unfold renderKs; split <;> exact ⟨_, rfl⟩

theorem renderKs_off {s : State} (h : enabled s uKs = false) : renderKs s = (fOfInt 0, s) := by
  unfold renderKs; rw [if_neg (by simp [h])]

/-- A sample writes the delay line at the string's position only. -/
theorem renderKs_buf (s : State) {j : Nat} (hj : j ≠ s.voice.ks.pos) :
    storeGet (fun _ => 0) (renderKs s).2.voice.ks.buf j = storeGet (fun _ => 0) s.voice.ks.buf j := by
  unfold renderKs; split
  · exact storeGet_set_other _ _ _ hj
  · rfl

/-- The MSO reader's part changes its position only. -/
theorem renderMso_state {b : Bool} {s : State} {r : F32 × State} (h : renderMso b s = some r) :
    ∃ x, r.2 = { s with voice := { s.voice with msoIdx := x } } := by
  unfold renderMso at h; split at h
  · split at h
    · cases h; exact ⟨_, rfl⟩
    · cases h
  · cases h; exact ⟨s.voice.msoIdx, rfl⟩

theorem renderMso_off {s : State} (b : Bool) (h : enabled s uMso = false) : renderMso b s = some (fOfInt 0, s) := by
  unfold renderMso; rw [if_neg (by simp [h])]

/-- The MSO reader gives a sample when the table is not empty. -/
theorem renderMso_isSome (b : Bool) {s : State} (hl : 0 < s.cfg.msoLen) : (renderMso b s).isSome = true := by
  unfold renderMso; split
  · have : msoIndex s < s.cfg.msoLen := by
      unfold msoIndex; simp only
      generalize numFloor s.num _ = z
      have h1 := Int.emod_lt_of_pos z (by omega : (0 : Int) < s.cfg.msoLen)
      have h2 := Int.emod_nonneg z (by omega : (s.cfg.msoLen : Int) ≠ 0)
      omega
    simp [tableRead, this]
  · rfl

/-- The PAD reader's part changes its position and the length it saw only. -/
theorem renderPad_state {b : Bool} {s : State} {r : F32 × F32 × State} (h : renderPad b s = some r) :
    ∃ x n, r.2.2 = { s with voice := { s.voice with padPos := x, padLenSeen := n } } := by
  unfold renderPad at h; split at h
  · simp only at h; split at h
    · cases h; exact ⟨_, _, rfl⟩
    · cases h
  · cases h; exact ⟨s.voice.padPos, s.voice.padLenSeen, rfl⟩

/-- The length the PAD reader saw after its part. -/
theorem renderPad_lenSeen {b : Bool} {s : State} {r : F32 × F32 × State} (h : renderPad b s = some r) :
    r.2.2.voice.padLenSeen = s.voice.padLenSeen ∨ r.2.2.voice.padLenSeen = (padBank s.program b).len := by
  unfold renderPad at h; split at h
  · simp only at h; split at h
    · cases h; exact .inr rfl
    · cases h
  · cases h; exact .inl rfl

theorem renderPad_off {s : State} (b : Bool) (h : enabled s uPad = false) : renderPad b s = some (fOfInt 0, fOfInt 0, s) := by
  unfold renderPad; rw [if_neg (by simp [h])]

/-- A tap of a PAD bank that is not empty gives a value. -/
theorem padTap_isSome (N : Num) {b : PadBank} (hl : 0 < b.len) (z : F32) : ∃ x, padTap N b z = some x := by
  unfold padTap; simp only
  have h1 := Int.emod_lt_of_pos (numFloor N z) (by omega : (0 : Int) < b.len)
  have h2 := Int.emod_nonneg (numFloor N z) (by omega : (b.len : Int) ≠ 0)
  generalize hi : (numFloor N z % (b.len : Int)).toNat = i
  have hlt : i < b.len := by omega
  rcases tableRead_cases (fun _ => 0) b.elems b.len i with ⟨_, e1⟩ | ⟨hge, _⟩
  · rcases tableRead_cases (fun _ => 0) b.elems b.len ((i + 1) % b.len) with ⟨_, e2⟩ | ⟨hge, _⟩
    · rw [e1, e2]; exact ⟨_, rfl⟩
    · have := Nat.mod_lt (i + 1) hl
      omega
  · omega

/-- The PAD reader gives its samples when the table is not empty. -/
theorem renderPad_isSome {b : Bool} {s : State} (hl : 0 < (padBank s.program b).len) : (renderPad b s).isSome = true := by
  unfold renderPad; split
  · simp only
    obtain ⟨x, hx⟩ := padTap_isSome s.num hl (padRescale s.num s.voice (padBank s.program b).len)
    obtain ⟨y, hy⟩ := padTap_isSome s.num hl
      (padHalfOn s.num (padBank s.program b).len (padRescale s.num s.voice (padBank s.program b).len))
    rw [hx, hy]; rfl
  · rfl

/-- The generators run one after the other. -/
theorem generateAll_cases {s s' : State} {g : Gens} (h : generateAll s = some (g, s')) :
    ∃ m p,
      renderMso s.program.msoSel (renderKs (renderNoise (renderOsc2 (renderOsc1 s).2).2).2).2 = some m
      ∧ renderPad s.program.padSel m.2 = some p
      ∧ g = ⟨(renderOsc1 s).1, (renderOsc2 (renderOsc1 s).2).1, (renderNoise (renderOsc2 (renderOsc1 s).2).2).1,
          (renderKs (renderNoise (renderOsc2 (renderOsc1 s).2).2).2).1, m.1, p.1, p.2.1⟩
      ∧ s' = p.2.2 := by
  unfold generateAll at h
  simp only at h
  split at h
  · cases h
  · next m hm =>
    split at h
    · cases h
    · next p hp => cases h; exact ⟨m, p, hm, hp, rfl, rfl⟩

theorem renderOsc1_only (s : State) : onlyRendered s (renderOsc1 s).2 := by unfold renderOsc1; split <;> rfl
theorem renderOsc2_only (s : State) : onlyRendered s (renderOsc2 s).2 := by unfold renderOsc2; split <;> rfl
theorem renderNoise_only (s : State) : onlyRendered s (renderNoise s).2 := by unfold renderNoise; split <;> rfl
theorem renderKs_only (s : State) : onlyRendered s (renderKs s).2 := by unfold renderKs; split <;> rfl

theorem renderMso_only {b : Bool} {s : State} {r : F32 × State} (h : renderMso b s = some r) : onlyRendered s r.2 := by
  obtain ⟨x, e⟩ := renderMso_state h
  unfold onlyRendered; rw [e]

theorem renderPad_only {b : Bool} {s : State} {r : F32 × F32 × State} (h : renderPad b s = some r) :
    onlyRendered s r.2.2 := by
  obtain ⟨x, n, e⟩ := renderPad_state h
  unfold onlyRendered; rw [e]

/-- The state after the generators. -/
theorem generateAll_only {s s' : State} {g : Gens} (h : generateAll s = some (g, s')) : onlyRendered s s' := by
  obtain ⟨m, p, hm, hp, _, rfl⟩ := generateAll_cases h
  exact onlyRendered_trans (renderOsc1_only s) (onlyRendered_trans (renderOsc2_only _) (onlyRendered_trans (renderNoise_only _)
    (onlyRendered_trans (renderKs_only _) (onlyRendered_trans (renderMso_only hm) (renderPad_only hp)))))

/-- Each generator's state after all of them is what its own part left. -/
theorem generateAll_state {s s' : State} {g : Gens} (h : generateAll s = some (g, s')) :
    s'.voice.osc1 = (renderOsc1 s).2.voice.osc1
    ∧ s'.voice.osc2 = (renderOsc2 (renderOsc1 s).2).2.voice.osc2
    ∧ s'.voice.noise = (renderNoise (renderOsc2 (renderOsc1 s).2).2).2.voice.noise
    ∧ s'.voice.ks = (renderKs (renderNoise (renderOsc2 (renderOsc1 s).2).2).2).2.voice.ks
    ∧ s'.voice.status = s.voice.status ∧ s'.voice.filt1 = s.voice.filt1 ∧ s'.voice.filt2 = s.voice.filt2
    ∧ s'.out = s.out := by
  obtain ⟨m, p, hm, hp, _, rfl⟩ := generateAll_cases h
  obtain ⟨_, e1⟩ := renderOsc1_state s
  obtain ⟨_, e2⟩ := renderOsc2_state (renderOsc1 s).2
  obtain ⟨_, e3⟩ := renderNoise_state (renderOsc2 (renderOsc1 s).2).2
  obtain ⟨_, e4⟩ := renderKs_state (renderNoise (renderOsc2 (renderOsc1 s).2).2).2
  obtain ⟨_, e5⟩ := renderMso_state hm
  obtain ⟨_, _, e6⟩ := renderPad_state hp
  refine ⟨?_, ?_, ?_, ?_, ?_, ?_, ?_, ?_⟩
  · rw [e6, e5, e4, e3, e2]
  · rw [e6, e5, e4, e3]
  · rw [e6, e5, e4]
  · rw [e6, e5]
  all_goals rw [e6, e5, e4, e3, e2, e1]

/-- The generators give their samples when the tables are not empty. -/
theorem generateAll_isSome {s : State} (hl : 0 < s.cfg.msoLen) (hp : 0 < (padBank s.program s.program.padSel).len) :
    ∃ g s', generateAll s = some (g, s') := by
  have f := onlyRendered_trans (renderOsc1_only s)
    (onlyRendered_trans (renderOsc2_only _) (onlyRendered_trans (renderNoise_only _) (renderKs_only _)))
  obtain ⟨m, hm⟩ := Option.isSome_iff_exists.mp
    (renderMso_isSome (s := (renderKs (renderNoise (renderOsc2 (renderOsc1 s).2).2).2).2) s.program.msoSel
      (by rw [onlyRendered_cfg f]; exact hl))
  have f2 := onlyRendered_trans f (renderMso_only hm)
  obtain ⟨p, hp⟩ := Option.isSome_iff_exists.mp
    (renderPad_isSome (s := m.2) (b := s.program.padSel) (by rw [onlyRendered_program f2]; exact hp))
  unfold generateAll
  simp only [hm, hp]
  exact ⟨_, _, rfl⟩

/-- Channels and amplifier change the filters only. -/
theorem mixOut_state (s : State) (g : Gens) :
    (mixOut s g).2 = { s with
      voice := { s.voice with filt1 := (mixOut s g).2.voice.filt1, filt2 := (mixOut s g).2.voice.filt2 } } := rfl

theorem mixOut_only (s : State) (g : Gens) : onlyRendered s (mixOut s g).2 := rfl

/-- Everything the last check can do. -/
theorem finishSample_cases (lr : F32 × F32) (s : State) :
    (fFinite lr.1 = true ∧ fFinite lr.2 = true ∧ finishSample lr s = deliver s .ok 0 (some lr) none)
    ∨ ((fFinite lr.1 = false ∨ fFinite lr.2 = false) ∧ finishSample lr s = deliver (rtFault s) .ok 0 (some (0, 0)) none) := by
  unfold finishSample
  split
  · next h => simp only [Bool.and_eq_true] at h; exact .inl ⟨h.1, h.2, rfl⟩
  · next h =>
    simp only [Bool.and_eq_true, not_and_or, Bool.not_eq_true] at h
    exact .inr ⟨h, rfl⟩

theorem finishSample_only (lr : F32 × F32) (s : State) : onlyRendered s (finishSample lr s) := by
  unfold finishSample; split <;> rfl

/-- Everything a RENDER_SAMPLE of an active voice can do. -/
theorem renderActive_cases (s : State) :
    (generateAll s = none ∧ renderActive s = .fault .tableIndex)
    ∨ ∃ g s', generateAll s = some (g, s')
        ∧ renderActive s = .next (finishSample (mixOut s' g).1 (mixOut s' g).2)
        ∧ onlyRendered s (finishSample (mixOut s' g).1 (mixOut s' g).2) := by
  cases h : generateAll s with
  | none =>
    refine Or.inl (And.intro rfl ?_)
    unfold renderActive
    rw [h]
  | some r =>
    obtain ⟨g, s'⟩ := r
    refine Or.inr (Exists.intro g (Exists.intro s' (And.intro rfl (And.intro ?_ ?_))))
    · unfold renderActive
      rw [h]
    · exact onlyRendered_trans (generateAll_only h) (onlyRendered_trans (mixOut_only s' g) (finishSample_only _ _))

end Sys2Proof.Machine
end

