-- ==== Sys2Proof/Laws/Memory.lean ====
section
/-! SUPPORT. Every operation over registers, tables and the delay line keeps the canonical form of memory (log 14). -/

namespace Sys2Proof.Machine

/-- Memory is in canonical form when each core's stores and the shared stores are. -/
theorem memory_wf_iff (s : State) :
    Memory.wf s = true ↔ voiceMemWf s.cfg.msoLen s.voice = true ∧ (∀ v ∈ s.others, voiceMemWf s.cfg.msoLen v = true)
      ∧ programMemWf s.cfg s.program = true := by
  simp only [Memory.wf, Bool.and_eq_true, List.all_eq_true, and_assoc]

theorem voiceMemWf_iff (L : Nat) (v : Voice) :
    voiceMemWf L v = true ↔ storeWf (regReset L) v.regs = true ∧ storeWf (fun _ => 0) v.ks.buf = true := by
  simp only [voiceMemWf, Bool.and_eq_true]

theorem programMemWf_iff (c : Cfg) (p : Program) :
    programMemWf c p = true ↔ storeWf (regReset c.msoLen) p.regs = true ∧ storeWf (fun _ => 0) p.pad0.elems = true
      ∧ storeWf (fun _ => 0) p.pad1.elems = true ∧ storeWf (msoBaseElem (numOf c.num) c.msoLen) p.msom0 = true
      ∧ storeWf (msoBaseElem (numOf c.num) c.msoLen) p.msom1 = true
      ∧ storeWf (msoBaseElem (numOf c.num) c.msoLen) p.msoBase = true := by
  simp only [programMemWf, Bool.and_eq_true, and_assoc]

/-- A change that leaves the stores and the configuration as they are keeps the canonical form. -/
theorem memory_wf_congr {s t : State} (hc : t.cfg = s.cfg) (hr : t.voice.regs = s.voice.regs)
    (hb : t.voice.ks.buf = s.voice.ks.buf) (ho : t.others = s.others) (hp : programMemWf s.cfg t.program = programMemWf s.cfg s.program) :
    Memory.wf t = Memory.wf s := by
  unfold Memory.wf voiceMemWf
  rw [hc, hr, hb, ho, hp]

/-- A register write keeps the canonical form. -/
theorem memory_wf_setReg {s : State} (k : Nat) (v : RegVal) (h : Memory.wf s = true) : Memory.wf (setReg s k v) = true := by
  rw [memory_wf_iff, voiceMemWf_iff, programMemWf_iff] at h ⊢
  obtain ⟨⟨h1, h2⟩, h3, h4, h5, h6⟩ := h
  unfold setReg
  split
  · exact ⟨⟨h1, h2⟩, h3, storeWf_set _ _ _ _ h4, h5, h6⟩
  · exact ⟨⟨storeWf_set _ _ _ _ h1, h2⟩, h3, h4, h5, h6⟩

/-- Plucking the string keeps the delay line in canonical form. -/
theorem ksPluck_wf {s : State} (h : storeWf (fun _ => 0) s.voice.ks.buf = true) :
    storeWf (fun _ => 0) (ksPluck s).buf = true := storeWf_setPrefix _ _ _ h

/-- A sample of the string keeps the delay line in canonical form. -/
theorem ksRender_wf {s : State} (h : storeWf (fun _ => 0) s.voice.ks.buf = true) :
    storeWf (fun _ => 0) (ksRender s).2.buf = true := storeWf_set _ _ _ _ h

theorem renderKs_wf {s : State} (h : storeWf (fun _ => 0) s.voice.ks.buf = true) :
    storeWf (fun _ => 0) (renderKs s).2.voice.ks.buf = true := by
  unfold renderKs; split
  · exact ksRender_wf h
  · exact h

/-- NOTE_ON keeps the canonical form. -/
theorem memory_wf_noteOn {s : State} (h : Memory.wf s = true) : Memory.wf (noteOn s) = true := by
  rw [memory_wf_iff, voiceMemWf_iff, programMemWf_iff] at h ⊢
  obtain ⟨⟨h1, h2⟩, h3, h4⟩ := h
  exact ⟨⟨h1, ksPluck_wf h2⟩, h3, h4⟩

/-- The generators keep the canonical form. -/
theorem memory_wf_generateAll {s s' : State} {g : Gens} (hg : generateAll s = some (g, s')) (h : Memory.wf s = true) :
    Memory.wf s' = true := by
  have f := generateAll_only hg
  have hk : storeWf (fun _ => 0) s'.voice.ks.buf = true := by
    rw [(generateAll_state hg).2.2.2.1]
    obtain ⟨_, e1⟩ := renderOsc1_state s
    obtain ⟨_, e2⟩ := renderOsc2_state (renderOsc1 s).2
    obtain ⟨_, e3⟩ := renderNoise_state (renderOsc2 (renderOsc1 s).2).2
    refine renderKs_wf ?_
    rw [e3, e2, e1]
    exact ((voiceMemWf_iff _ _).mp ((memory_wf_iff s).mp h).1).2
  rw [memory_wf_iff, voiceMemWf_iff] at h ⊢
  rw [onlyRendered_cfg f, onlyRendered_regs f, onlyRendered_others f, onlyRendered_program f]
  exact ⟨⟨h.1.1, hk⟩, h.2⟩

/-- A PAD build keeps the canonical form. -/
theorem memory_wf_padSwap {s : State} (h : Memory.wf s = true) : Memory.wf (padSwap s) = true := by
  rw [memory_wf_iff, programMemWf_iff] at h ⊢
  obtain ⟨h1, h2, h3, h4, h5, h6⟩ := h
  have hb : storeWf (fun _ => 0) (padBuild s.num s.cfg.fs s.program.padSnap).elems = true := storeWf_ofList _ _
  have key : storeWf (fun _ => 0) (padSwapped s).pad0.elems = true ∧ storeWf (fun _ => 0) (padSwapped s).pad1.elems = true := by
    rw [padSwapped_pad0, padSwapped_pad1]
    cases s.program.padSel
    · exact ⟨h4, hb⟩
    · exact ⟨hb, h5⟩
  unfold padSwap
  cases s.program.padPending
  · exact ⟨h1, h2, h3, key.1, key.2, h6⟩
  · exact ⟨h1, h2, h3, key.1, key.2, h6⟩

/-- An MSO build keeps the canonical form. -/
theorem memory_wf_msoSwap {s : State} (h : Memory.wf s = true) : Memory.wf (msoSwap s) = true := by
  rw [memory_wf_iff, programMemWf_iff] at h ⊢
  obtain ⟨h1, h2, h3, h4, h5, h6, h7, h8⟩ := h
  have hb : storeWf (msoBaseElem (numOf s.cfg.num) s.cfg.msoLen)
      (storeOfList (msoBaseElem s.num s.cfg.msoLen) 0 (msoTable s.num s.cfg.msoLen s.program.msoSnap)) = true :=
    storeWf_ofList _ _
  have key : storeWf (msoBaseElem (numOf s.cfg.num) s.cfg.msoLen) (msoSwapped s).msom0 = true
      ∧ storeWf (msoBaseElem (numOf s.cfg.num) s.cfg.msoLen) (msoSwapped s).msom1 = true := by
    rw [msoSwapped_msom0, msoSwapped_msom1]
    cases s.program.msoSel
    · exact ⟨h6, hb⟩
    · exact ⟨hb, h7⟩
  unfold msoSwap
  cases s.program.msoPending
  · exact ⟨h1, h2, h3, h4, h5, key.1, key.2, h8⟩
  · exact ⟨h1, h2, h3, h4, h5, key.1, key.2, h8⟩

/-- A request to the Table Builder keeps the canonical form. -/
theorem memory_wf_padRequest {s : State} (h : Memory.wf s = true) : Memory.wf (padRequest s) = true := by
  unfold padRequest
  split <;> exact h

theorem memory_wf_msoRequest {s : State} (h : Memory.wf s = true) : Memory.wf (msoRequest s) = true := by
  unfold msoRequest
  split <;> exact h

/-- Changing the current core keeps the canonical form. -/
theorem memory_wf_focus {s t : State} {core : Nat} (hf : focus s core = some t) (h : Memory.wf s = true) :
    Memory.wf t = true := by
  rcases focus_cases s core with ⟨_, e⟩ | ⟨_, _, e⟩ | ⟨v, _, hv, e⟩
  · rw [hf] at e; cases e; exact h
  · rw [hf] at e; cases e
  · rw [hf] at e; cases e
    rw [memory_wf_iff] at h ⊢
    refine ⟨h.2.1 v (findVoice_mem hv), fun x hx => ?_, h.2.2⟩
    rcases mem_insertVoice.mp hx with rfl | hx
    · exact h.1
    · exact h.2.1 x (mem_of_mem_dropVoice hx)

/-- The memory after reset is in canonical form: nothing is listed. -/
theorem memory_wf_resetWith (req : Cfg) : Memory.wf (State.resetWith req) = true := by
  rw [memory_wf_iff, voiceMemWf_iff, programMemWf_iff]
  refine ⟨⟨rfl, rfl⟩, ?_, rfl, rfl, rfl, rfl, rfl, rfl⟩
  have key : ∀ (c : Cfg) (fell : Bool) (ids : List (BitVec 8)) (n : Nat),
      ∀ v ∈ resetVoices c fell n ids, voiceMemWf c.msoLen v = true := by
    intro c fell ids
    induction ids with
    | nil => intro n v hv; cases hv
    | cons x xs ih =>
      intro n v hv
      rcases List.mem_cons.mp hv with rfl | hv
      · rfl
      · exact ih _ v hv
  exact key _ _ _ _

theorem memory_wf_reset : Memory.wf State.reset = true := memory_wf_resetWith Cfg.default

end Sys2Proof.Machine
end

