-- ==== Sys2Proof/Laws/Invariant.lean ====
section
/-! SUPPORT. The parts of the invariant (Safety.lean), and which operations keep them. -/

namespace Sys2Proof.Machine

/-- The parts of `voiceOk`. -/
structure VoiceParts (c : Cfg) (v : Voice) : Prop where
  regs : v.regs.all (cellOk c.msoLen) = true
  regsIn : storeWithin 0 0xE00 v.regs = true
  buf : storeWithin 0 ksCap v.ks.buf = true
  len2 : 2 ≤ v.ks.len
  len : v.ks.len ≤ ksCap
  pos : v.ks.pos < v.ks.len
  pad : padLens.contains v.padLenSeen = true
  flags : v.inUse = v.active
  e1 : adsrIdleZero v.adsr.e1 = true
  e2 : adsrIdleZero v.adsr.e2 = true
  e3 : adsrIdleZero v.adsr.e3 = true
  e4 : adsrIdleZero v.adsr.e4 = true
  e5 : adsrIdleZero v.adsr.e5 = true
  halted : v.halted = !cfgLegal c

theorem voiceOk_iff {c v} : voiceOk c v = true ↔ VoiceParts c v := by
  simp only [voiceOk, Bool.and_eq_true, decide_eq_true_eq]
  constructor
  · rintro ⟨⟨⟨⟨⟨⟨⟨⟨⟨⟨⟨⟨⟨a,b⟩,c⟩,d⟩,e⟩,f⟩,g⟩,h⟩,i⟩,j⟩,k⟩,l⟩,m⟩,n⟩
    exact ⟨a,b,c,d,e,f,g,h,i,j,k,l,m,n⟩
  · rintro ⟨a,b,c,d,e,f,g,h,i,j,k,l,m,n⟩
    exact ⟨⟨⟨⟨⟨⟨⟨⟨⟨⟨⟨⟨⟨a,b⟩,c⟩,d⟩,e⟩,f⟩,g⟩,h⟩,i⟩,j⟩,k⟩,l⟩,m⟩,n⟩

/-- The parts of `programOk`. -/
structure ProgramParts (c : Cfg) (p : Program) : Prop where
  regs : p.regs.all (cellOk c.msoLen) = true
  regsIn : storeWithin 0xE00 0x1000 p.regs = true
  pad0 : padBankOk p.pad0 = true
  pad1 : padBankOk p.pad1 = true
  m0 : storeWithin 0 c.msoLen p.msom0 = true
  m1 : storeWithin 0 c.msoLen p.msom1 = true
  base : p.msoBase = []
  pp : (!p.padPending || p.padBusy) = true
  mp : (!p.msoPending || p.msoBusy) = true
  pl : (!p.padBusy || cfgLegal c) = true
  ml : (!p.msoBusy || cfgLegal c) = true
  q : (!p.padBusy || decide (p.padSnap.quality.toNat ≤ 5)) = true

theorem programOk_iff {c p} : programOk c p = true ↔ ProgramParts c p := by
  simp only [programOk, Bool.and_eq_true, decide_eq_true_eq]
  constructor
  · rintro ⟨⟨⟨⟨⟨⟨⟨⟨⟨⟨⟨a,b⟩,c⟩,d⟩,e⟩,f⟩,g⟩,h⟩,i⟩,j⟩,k⟩,l⟩
    exact ⟨a,b,c,d,e,f,g,h,i,j,k,l⟩
  · rintro ⟨a,b,c,d,e,f,g,h,i,j,k,l⟩
    exact ⟨⟨⟨⟨⟨⟨⟨⟨⟨⟨⟨a,b⟩,c⟩,d⟩,e⟩,f⟩,g⟩,h⟩,i⟩,j⟩,k⟩,l⟩

/-- The QUALITY register of a good program is at most 5. -/
theorem quality_le {s : State} (h : s.program.regs.all (cellOk s.cfg.msoLen) = true) : (regAt s 0xE0F).toNat ≤ 5 := by
  show (storeGet (regReset s.cfg.msoLen) s.program.regs 0xE0F).toNat ≤ 5
  have key : ∀ m : List (Nat × RegVal), m.all (cellOk s.cfg.msoLen) = true → (storeGet (regReset s.cfg.msoLen) m 0xE0F).toNat ≤ 5 := by
    intro m
    induction m with
    | nil => intro _; exact (by decide : (0#16).toNat ≤ 5)
    | cons e m ih =>
      intro h
      simp only [List.all_cons, Bool.and_eq_true] at h
      obtain ⟨j, v⟩ := e
      unfold storeGet; split
      · next hj =>
        subst hj
        have h1 := h.1
        unfold cellOk at h1
        have : regInfo s.cfg.msoLen (BitVec.ofNat 12 0xE0F) = some ⟨.range 0 5, 0, .rw, .builder⟩ := rfl
        simp only [this] at h1
        simp [inDomain] at h1
        have := BitVec.toInt_eq_toNat_cond v
        split at this <;> omega
      · exact ih h.2
  exact key _ h

theorem padLens_two_pow {q : Nat} (h : q ≤ 5) : padLens.contains (2 ^ (15 + q)) = true := by
  have : q = 0 ∨ q = 1 ∨ q = 2 ∨ q = 3 ∨ q = 4 ∨ q = 5 := by omega
  rcases this with rfl|rfl|rfl|rfl|rfl|rfl <;> decide

theorem storeWithin_ofList {α} [DecidableEq α] (d : Nat → α) (vs : List α) : storeWithin 0 vs.length (storeOfList d 0 vs) = true := by
  simp only [storeWithin, List.all_eq_true, Bool.and_eq_true, decide_eq_true_eq]
  intro e he
  have := storeOfList_listed d vs 0 e he
  omega

/-- A built PAD bank is a good bank. -/
theorem padBuild_ok {N fs x} (h : x.quality.toNat ≤ 5) : padBankOk (padBuild N fs x) = true := by
  simp only [padBankOk, padBuild, Bool.and_eq_true, padLen]
  refine ⟨padLens_two_pow h, ?_⟩
  have : (padTable N fs x).length = 2 ^ (15 + x.quality.toNat) := by
    unfold padTable; simp only; split <;> simp [padLen]
  rw [← this]; exact storeWithin_ofList _ _

/-- A built MSO table fits its bank. -/
theorem msoTable_within {N L x} : storeWithin 0 L (storeOfList (msoBaseElem N L) 0 (msoTable N L x)) = true := by
  have : (msoTable N L x).length = L := by simp [msoTable]
  have h := storeWithin_ofList (msoBaseElem N L) (msoTable N L x)
  rw [this] at h; exact h

/-- The Table Builder keeps the program good. -/
theorem padStart_ok {s : State} (hl : cfgLegal s.cfg = true) (h : ProgramParts s.cfg s.program) : ProgramParts s.cfg (padStart s).program := by
  refine ⟨h.regs, h.regsIn, h.pad0, h.pad1, h.m0, h.m1, h.base, ?_, h.mp, ?_, h.ml, ?_⟩
  · simp
  · simp [hl]
  · have := quality_le h.regs; simp [padSnapOf, this]

theorem msoStart_ok {s : State} (hl : cfgLegal s.cfg = true) (h : ProgramParts s.cfg s.program) : ProgramParts s.cfg (msoStart s).program := by
  refine ⟨h.regs, h.regsIn, h.pad0, h.pad1, h.m0, h.m1, h.base, h.pp, ?_, h.pl, ?_, h.q⟩
  · simp
  · simp [hl]

theorem padRequest_ok {s : State} (hl : cfgLegal s.cfg = true) (h : ProgramParts s.cfg s.program) : ProgramParts s.cfg (padRequest s).program := by
  unfold padRequest; split
  · next hb => exact ⟨h.regs, h.regsIn, h.pad0, h.pad1, h.m0, h.m1, h.base, by simp [hb], h.mp, h.pl, h.ml, h.q⟩
  · exact padStart_ok hl h
theorem msoRequest_ok {s : State} (hl : cfgLegal s.cfg = true) (h : ProgramParts s.cfg s.program) : ProgramParts s.cfg (msoRequest s).program := by
  unfold msoRequest; split
  · next hb => exact ⟨h.regs, h.regsIn, h.pad0, h.pad1, h.m0, h.m1, h.base, h.pp, by simp [hb], h.pl, h.ml, h.q⟩
  · exact msoStart_ok hl h

theorem padSwap_ok {s : State} (hb : s.program.padBusy = true) (h : ProgramParts s.cfg s.program) : ProgramParts s.cfg (padSwap s).program := by
  have hl : cfgLegal s.cfg = true := by have := h.pl; rw [hb] at this; simpa using this
  have hq : s.program.padSnap.quality.toNat ≤ 5 := by have := h.q; rw [hb] at this; simpa using this
  have hk := padBuild_ok (N := s.num) (fs := s.cfg.fs) hq
  have base : ∀ pend, (pend = false) → ProgramParts s.cfg { padSwapped s with padPending := pend } := by
    intro pend hp
    refine ⟨h.regs, h.regsIn, ?_, ?_, h.m0, h.m1, h.base, by simp [hp], h.mp, by simp, h.ml, by simp⟩
    · show padBankOk (padSwapped s).pad0 = true
      rw [padSwapped_pad0]; split
      · exact hk
      · exact h.pad0
    · show padBankOk (padSwapped s).pad1 = true
      rw [padSwapped_pad1]; split
      · exact h.pad1
      · exact hk
  unfold padSwap; simp only; split
  · exact padStart_ok (s := { s with program := { padSwapped s with padPending := false } }) hl (base false rfl)
  · next hp =>
    have := base s.program.padPending (by simpa using hp)
    exact this

theorem msoSwap_ok {s : State} (hb : s.program.msoBusy = true) (h : ProgramParts s.cfg s.program) : ProgramParts s.cfg (msoSwap s).program := by
  have hl : cfgLegal s.cfg = true := by have := h.ml; rw [hb] at this; simpa using this
  have hk := msoTable_within (N := s.num) (L := s.cfg.msoLen) (x := s.program.msoSnap)
  have base : ∀ pend, (pend = false) → ProgramParts s.cfg { msoSwapped s with msoPending := pend } := by
    intro pend hp
    refine ⟨h.regs, h.regsIn, h.pad0, h.pad1, ?_, ?_, h.base, h.pp, by simp [hp], h.pl, by simp, h.q⟩
    · show storeWithin 0 s.cfg.msoLen (msoSwapped s).msom0 = true
      rw [msoSwapped_msom0]; split
      · exact hk
      · exact h.m0
    · show storeWithin 0 s.cfg.msoLen (msoSwapped s).msom1 = true
      rw [msoSwapped_msom1]; split
      · exact h.m1
      · exact hk
  unfold msoSwap; simp only; split
  · exact msoStart_ok (s := { s with program := { msoSwapped s with msoPending := false } }) hl (base false rfl)
  · next hp =>
    have := base s.program.msoPending (by simpa using hp)
    exact this

/-- No event or tick leaves an Idle envelope with a level. -/
theorem adsrNoteOn_idleZero {N x} (h : adsrIdleZero x = true) : adsrIdleZero (adsrNoteOn N x) = true := by
  unfold adsrNoteOn; simp only
  cases hx : x.state <;> simp_all [adsrIdleZero, enterForceRelease]

theorem adsrNoteOff_idleZero {N x} (h : adsrIdleZero x = true) : adsrIdleZero (adsrNoteOff N x) = true := by
  unfold adsrNoteOff; simp only
  cases hx : x.state <;> simp_all [adsrIdleZero, enterForceRelease]

theorem adsrTick_idleZero {s u x} (h : adsrIdleZero x = true) : adsrIdleZero (adsrTick s u x) = true := by
  unfold adsrTick; simp only
  cases hx : x.state <;> simp only [rampDown]
  · simpa [adsrIdleZero, hx] using h
  · split <;> simp [adsrIdleZero]
  · split <;> simp [adsrIdleZero]
  · simp [adsrIdleZero]
  · split <;> simp [adsrIdleZero]
  · split
    · simp [adsrIdleZero]
    · simp [adsrIdleZero]
  · split <;> simp [adsrIdleZero]

/-- The loop length is in range. -/
theorem ksLength_bounds (s : State) : 2 ≤ ksLength s ∧ ksLength s ≤ ksCap := by
  unfold ksLength intClamp ksCap
  constructor <;> omega

/-- The excitation has the length of the loop. -/
theorem ksExcitation_length (s : State) : (ksExcitation s).1.length = ksLength s := by
  have key : ∀ N code len var pd fuel i prng prev d, (ksLine N code len var pd fuel i prng prev d).1.length = fuel := by
    intro N code len var pd fuel
    induction fuel with
    | zero => intros; rfl
    | succ n ih => intros; simp [ksLine, ih]
  exact key _ _ _ _ _ _ _ _ _ _

theorem storeWithin_setPrefix {m : List (Nat × F32)} {vs : List F32} (h : storeWithin 0 ksCap m = true) (hl : vs.length ≤ ksCap) :
   storeWithin 0 ksCap (storeSetPrefix (fun _ => 0) m vs) = true := by
  simp only [storeWithin, storeSetPrefix, List.all_append, List.all_eq_true, Bool.and_eq_true, decide_eq_true_eq, List.mem_filter] at *
  refine ⟨fun e he => ?_, fun e he => h e he.1⟩
  have := storeOfList_listed (fun _ => (0:F32)) vs 0 e he
  omega

/-- A sample of the string keeps the voice good. -/
theorem renderKs_ok {s : State} (hv : VoiceParts s.cfg s.voice) : VoiceParts s.cfg (renderKs s).2.voice := by
  unfold renderKs; split
  · refine ⟨hv.regs, hv.regsIn, ?_, hv.len2, hv.len, ?_, hv.pad, hv.flags, hv.e1, hv.e2, hv.e3, hv.e4, hv.e5, hv.halted⟩
    · show storeWithin 0 ksCap (storeSet (fun _ => 0) s.voice.ks.buf s.voice.ks.pos _) = true
      unfold storeWithin; apply storeSet_all
      · have := hv.pos; have := hv.len; simp; omega
      · exact hv.buf
    · show (s.voice.ks.pos + 1) % s.voice.ks.len < s.voice.ks.len
      exact Nat.mod_lt _ (by have := hv.len2; omega)
  · exact hv

end Sys2Proof.Machine
end

