-- ==== Sys2Proof/Laws/Link.lean ====
section
/-! SUPPORT. Words on the byte-serial link, and the fields of a response word. -/

namespace Sys2Proof.Machine

/-- The four bytes of a word stand for the word. -/
theorem linkWord_bytes (w : Word) :
    linkWord (w.extractLsb' 0 8) (w.extractLsb' 8 8) (w.extractLsb' 16 8) (w.extractLsb' 24 8) = w := by
  apply BitVec.eq_of_getLsbD_eq
  intro i hi
  unfold linkWord
  rw [BitVec.getLsbD_append, BitVec.getLsbD_append, BitVec.getLsbD_append]
  have at_ : ∀ k n, k + n = i → n < 8 → (w.extractLsb' k 8).getLsbD n = w.getLsbD i := by
    intro k n h hn
    rw [BitVec.getLsbD_extractLsb', h]
    simp [hn]
  split
  · exact at_ 0 i (by omega) (by omega)
  · split
    · exact at_ 8 (i - 8) (by omega) (by omega)
    · split
      · exact at_ 16 (i - 8 - 8) (by omega) (by omega)
      · exact at_ 24 (i - 8 - 8 - 8) (by omega) (by omega)

/-- A word's bytes at the head of a stream are received as the word. -/
theorem linkReceive_linkBytes (w : Word) (bytes : List (BitVec 8)) :
    linkReceive (linkBytes w ++ bytes) = (w :: (linkReceive bytes).1, (linkReceive bytes).2) := by
  simp [linkBytes, linkReceive, linkWord_bytes]

/-- DATA of a response word (30_encoding.md R262). -/
theorem responseWord_data (rc : Rc) (data : BitVec 16) : (responseWord rc data).extractLsb' 0 16 = data := by
  apply BitVec.eq_of_getLsbD_eq
  intro i hi
  unfold responseWord
  rw [BitVec.getLsbD_extractLsb', BitVec.getLsbD_append, if_pos (by omega : 0 + i < 16)]
  simp [hi]

/-- RC of a response word (30_encoding.md R262). -/
theorem responseWord_rc (rc : Rc) (data : BitVec 16) : (responseWord rc data).extractLsb' 30 2 = rcCode rc := by
  apply BitVec.eq_of_getLsbD_eq
  intro i hi
  unfold responseWord
  rw [BitVec.getLsbD_extractLsb', BitVec.getLsbD_append, if_neg (by omega : ¬(30 + i < 16)), BitVec.getLsbD_append,
    if_neg (by omega : ¬(30 + i - 16 < 14)), (by omega : 30 + i - 16 - 14 = i)]
  simp [hi]

end Sys2Proof.Machine
end

