-- ==== Sys2Proof/Laws/Rows.lean ====
section
/-! SUPPORT. Which addresses have a row of their own in the opcode table. -/

namespace Sys2Proof

theorem writeRowsVoice_isSome (v : RegVal) (i : Nat) : (writeRowsVoice v i).isSome = (writeRowsVoice 0 i).isSome := by
  unfold writeRowsVoice; split <;> rfl

theorem writeRowsOsc1_isSome (v : RegVal) (i : Nat) : (writeRowsOsc1 v i).isSome = (writeRowsOsc1 0 i).isSome := by
  unfold writeRowsOsc1; split <;> rfl

theorem writeRowsOsc2_isSome (v : RegVal) (i : Nat) : (writeRowsOsc2 v i).isSome = (writeRowsOsc2 0 i).isSome := by
  unfold writeRowsOsc2; split <;> rfl

theorem writeRowsNoise_isSome (v : RegVal) (i : Nat) : (writeRowsNoise v i).isSome = (writeRowsNoise 0 i).isSome := by
  unfold writeRowsNoise; split <;> rfl

theorem writeRowsKs_isSome (v : RegVal) (i : Nat) : (writeRowsKs v i).isSome = (writeRowsKs 0 i).isSome := by
  unfold writeRowsKs; split <;> rfl

theorem writeRowsMso_isSome (v : RegVal) (i : Nat) : (writeRowsMso v i).isSome = (writeRowsMso 0 i).isSome := by
  unfold writeRowsMso; split <;> rfl

theorem writeRowsPad_isSome (v : RegVal) (i : Nat) : (writeRowsPad v i).isSome = (writeRowsPad 0 i).isSome := by
  unfold writeRowsPad; split <;> rfl

theorem writeRowsFilt1_isSome (v : RegVal) (i : Nat) : (writeRowsFilt1 v i).isSome = (writeRowsFilt1 0 i).isSome := by
  unfold writeRowsFilt1; split <;> rfl

theorem writeRowsFilt2_isSome (v : RegVal) (i : Nat) : (writeRowsFilt2 v i).isSome = (writeRowsFilt2 0 i).isSome := by
  unfold writeRowsFilt2; split <;> rfl

theorem writeRowsDist1_isSome (v : RegVal) (i : Nat) : (writeRowsDist1 v i).isSome = (writeRowsDist1 0 i).isSome := by
  unfold writeRowsDist1; split <;> rfl

theorem writeRowsDist2_isSome (v : RegVal) (i : Nat) : (writeRowsDist2 v i).isSome = (writeRowsDist2 0 i).isSome := by
  unfold writeRowsDist2; split <;> rfl

theorem writeRowsAmp_isSome (v : RegVal) (i : Nat) : (writeRowsAmp v i).isSome = (writeRowsAmp 0 i).isSome := by
  unfold writeRowsAmp; split <;> rfl

theorem writeRowsLfo_isSome (v : RegVal) (i : Nat) : (writeRowsLfo v i).isSome = (writeRowsLfo 0 i).isSome := by
  unfold writeRowsLfo; split <;> rfl

theorem writeRowsAdsr_isSome (v : RegVal) (i : Nat) : (writeRowsAdsr v i).isSome = (writeRowsAdsr 0 i).isSome := by
  unfold writeRowsAdsr; split <;> rfl

theorem writeRowsPadb_isSome (v : RegVal) (i : Nat) : (writeRowsPadb v i).isSome = (writeRowsPadb 0 i).isSome := by
  unfold writeRowsPadb; split <;> rfl

theorem writeRowsMsob_isSome (v : RegVal) (i : Nat) : (writeRowsMsob v i).isSome = (writeRowsMsob 0 i).isSome := by
  unfold writeRowsMsob; split <;> rfl

/-- Whether an address has a WRITE row does not depend on the value. -/
theorem writeRow_isSome (a : PAddr) (v : RegVal) : (writeRow a v).isSome = (writeRow a 0).isSome := by
  unfold writeRow
  split
  · exact writeRowsVoice_isSome v _
  · exact writeRowsOsc1_isSome v _
  · exact writeRowsOsc2_isSome v _
  · exact writeRowsNoise_isSome v _
  · exact writeRowsKs_isSome v _
  · exact writeRowsMso_isSome v _
  · exact writeRowsPad_isSome v _
  · exact writeRowsFilt1_isSome v _
  · exact writeRowsFilt2_isSome v _
  · exact writeRowsDist1_isSome v _
  · exact writeRowsDist2_isSome v _
  · exact writeRowsAmp_isSome v _
  · exact writeRowsLfo_isSome v _
  · exact writeRowsAdsr_isSome v _
  · exact writeRowsPadb_isSome v _
  · exact writeRowsMsob_isSome v _
  · rfl

theorem writeRow_table : ∀ u : Fin 16, ∀ i : Fin 256,
    (writeRow (BitVec.ofNat 12 (256 * u.val + i.val)) 0).isSome
      = Machine.writable (BitVec.ofNat 12 (256 * u.val + i.val)) := by decide +kernel

theorem readRow_table : ∀ u : Fin 16, ∀ i : Fin 256,
    (readRow (BitVec.ofNat 12 (256 * u.val + i.val))).isSome
      = Machine.mapped (BitVec.ofNat 12 (256 * u.val + i.val)) := by decide +kernel

theorem paddr_split (a : PAddr) : ∃ u : Fin 16, ∃ i : Fin 256, a = BitVec.ofNat 12 (256 * u.val + i.val) := by
  have ha := a.isLt
  refine ⟨⟨a.toNat / 256, by omega⟩, ⟨a.toNat % 256, Nat.mod_lt _ (by decide)⟩, ?_⟩
  apply BitVec.eq_of_toNat_eq
  simp only [BitVec.toNat_ofNat]
  omega

/-- An address has a WRITE row exactly when it is writable. -/
theorem writeRow_isSome_iff (a : PAddr) (v : RegVal) : (writeRow a v).isSome = Machine.writable a := by
  obtain ⟨u, i, rfl⟩ := paddr_split a
  rw [writeRow_isSome]
  exact writeRow_table u i

/-- An address has a READ row exactly when it is mapped. -/
theorem readRow_isSome_iff (a : PAddr) : (readRow a).isSome = Machine.mapped a := by
  obtain ⟨u, i, rfl⟩ := paddr_split a
  exact readRow_table u i

end Sys2Proof
end

