-- ==== Sys2Proof/Laws/PerInstr.lean ====
section
/-! SUPPORT. One lemma per instruction: the instruction is found again from the command it stands for. -/

namespace Sys2Proof.Laws

/-- The row of the opcode table that a command belongs to. -/
def RowFound.rowOf : Command → Instr
  | .nop => .nop
  | .write a v => decodeWrite a v
  | .read a => decodeRead a
  | .setFrequency x => .setFrequency x
  | .noteOn => .noteOn
  | .noteOff => .noteOff
  | .tickControl => .tickControl
  | .renderSample => .renderSample
  | .clearFilters => .clearFilters
  | .buildPad => .buildPad
  | .illegal opc x =>
    match opc with
    | 0 => .illegalA x
    | 1 => .illegalB x
    | 2 => .illegalC x
    | 3 => .illegalD x
    | 4 => .illegalE x
    | 5 => .illegalF x

/-- A well-formed instruction is the row of the command it stands for. -/
def RowFound.Statement (i : Instr) : Prop := i.wf = true → RowFound.rowOf i.command = i

theorem RowFound.writeParam (a : PAddr) (v : RegVal) : RowFound.Statement (.writeParam a v) := by
  intro h
  have hr : writeRow a v = none := by
    have h2 := writeRow_isSome_iff a v
    have h3 : Machine.writable a = false := by simpa [Instr.wf] using h
    rw [h3] at h2
    simpa using h2
  show (writeRow a v).getD (.writeParam a v) = _
  rw [hr]
  rfl

theorem RowFound.readParam (a : PAddr) : RowFound.Statement (.readParam a) := by
  intro h
  have hr : readRow a = none := by
    have h2 := readRow_isSome_iff a
    have h3 : Machine.mapped a = false := by simpa [Instr.wf] using h
    rw [h3] at h2
    simpa using h2
  show (readRow a).getD (.readParam a) = _
  rw [hr]
  rfl

theorem RowFound.setFrequency (mhz : BitVec 28) : RowFound.Statement (.setFrequency mhz) := fun _ => rfl
theorem RowFound.illegalA (x : BitVec 28) : RowFound.Statement (.illegalA x) := fun _ => rfl
theorem RowFound.illegalB (x : BitVec 28) : RowFound.Statement (.illegalB x) := fun _ => rfl
theorem RowFound.illegalC (x : BitVec 28) : RowFound.Statement (.illegalC x) := fun _ => rfl
theorem RowFound.illegalD (x : BitVec 28) : RowFound.Statement (.illegalD x) := fun _ => rfl
theorem RowFound.illegalE (x : BitVec 28) : RowFound.Statement (.illegalE x) := fun _ => rfl
theorem RowFound.illegalF (x : BitVec 28) : RowFound.Statement (.illegalF x) := fun _ => rfl
theorem RowFound.writeVoiceStatus (v : RegVal) : RowFound.Statement (.writeVoiceStatus v) := fun _ => rfl
theorem RowFound.writeOsc1Enable (v : RegVal) : RowFound.Statement (.writeOsc1Enable v) := fun _ => rfl
theorem RowFound.writeOsc1Waveform (v : RegVal) : RowFound.Statement (.writeOsc1Waveform v) := fun _ => rfl
theorem RowFound.writeOsc1PwmPercent (v : RegVal) : RowFound.Statement (.writeOsc1PwmPercent v) := fun _ => rfl
theorem RowFound.writeOsc1Octave (v : RegVal) : RowFound.Statement (.writeOsc1Octave v) := fun _ => rfl
theorem RowFound.writeOsc1Semitone (v : RegVal) : RowFound.Statement (.writeOsc1Semitone v) := fun _ => rfl
theorem RowFound.writeOsc1Cents (v : RegVal) : RowFound.Statement (.writeOsc1Cents v) := fun _ => rfl
theorem RowFound.writeOsc1SendF1 (v : RegVal) : RowFound.Statement (.writeOsc1SendF1 v) := fun _ => rfl
theorem RowFound.writeOsc1SendF2 (v : RegVal) : RowFound.Statement (.writeOsc1SendF2 v) := fun _ => rfl
theorem RowFound.writeOsc1Sync (v : RegVal) : RowFound.Statement (.writeOsc1Sync v) := fun _ => rfl
theorem RowFound.writeOsc1UnisonMode (v : RegVal) : RowFound.Statement (.writeOsc1UnisonMode v) := fun _ => rfl
theorem RowFound.writeOsc1UnisonDetune (v : RegVal) : RowFound.Statement (.writeOsc1UnisonDetune v) := fun _ => rfl
theorem RowFound.writeOsc1UnisonDist (v : RegVal) : RowFound.Statement (.writeOsc1UnisonDist v) := fun _ => rfl
theorem RowFound.writeOsc1UnisonLevel0 (v : RegVal) : RowFound.Statement (.writeOsc1UnisonLevel0 v) := fun _ => rfl
theorem RowFound.writeOsc1UnisonLevel1 (v : RegVal) : RowFound.Statement (.writeOsc1UnisonLevel1 v) := fun _ => rfl
theorem RowFound.writeOsc1UnisonLevel2 (v : RegVal) : RowFound.Statement (.writeOsc1UnisonLevel2 v) := fun _ => rfl
theorem RowFound.writeOsc1UnisonLevel3 (v : RegVal) : RowFound.Statement (.writeOsc1UnisonLevel3 v) := fun _ => rfl
theorem RowFound.writeOsc1UnisonLevel4 (v : RegVal) : RowFound.Statement (.writeOsc1UnisonLevel4 v) := fun _ => rfl
theorem RowFound.writeOsc1UnisonLevel5 (v : RegVal) : RowFound.Statement (.writeOsc1UnisonLevel5 v) := fun _ => rfl
theorem RowFound.writeOsc1UnisonLevel6 (v : RegVal) : RowFound.Statement (.writeOsc1UnisonLevel6 v) := fun _ => rfl
theorem RowFound.writeOsc1UnisonLevel7 (v : RegVal) : RowFound.Statement (.writeOsc1UnisonLevel7 v) := fun _ => rfl
theorem RowFound.writeOsc1UnisonLevel8 (v : RegVal) : RowFound.Statement (.writeOsc1UnisonLevel8 v) := fun _ => rfl
theorem RowFound.writeOsc1FreqLfoSel (v : RegVal) : RowFound.Statement (.writeOsc1FreqLfoSel v) := fun _ => rfl
theorem RowFound.writeOsc1FreqLfoDepth (v : RegVal) : RowFound.Statement (.writeOsc1FreqLfoDepth v) := fun _ => rfl
theorem RowFound.writeOsc1FreqEnvSel (v : RegVal) : RowFound.Statement (.writeOsc1FreqEnvSel v) := fun _ => rfl
theorem RowFound.writeOsc1FreqEnvDepth (v : RegVal) : RowFound.Statement (.writeOsc1FreqEnvDepth v) := fun _ => rfl
theorem RowFound.writeOsc1PwmLfoSel (v : RegVal) : RowFound.Statement (.writeOsc1PwmLfoSel v) := fun _ => rfl
theorem RowFound.writeOsc1PwmLfoDepth (v : RegVal) : RowFound.Statement (.writeOsc1PwmLfoDepth v) := fun _ => rfl
theorem RowFound.writeOsc1PwmEnvSel (v : RegVal) : RowFound.Statement (.writeOsc1PwmEnvSel v) := fun _ => rfl
theorem RowFound.writeOsc1PwmEnvDepth (v : RegVal) : RowFound.Statement (.writeOsc1PwmEnvDepth v) := fun _ => rfl
theorem RowFound.writeOsc1AmpLfoSel (v : RegVal) : RowFound.Statement (.writeOsc1AmpLfoSel v) := fun _ => rfl
theorem RowFound.writeOsc1AmpLfoDepth (v : RegVal) : RowFound.Statement (.writeOsc1AmpLfoDepth v) := fun _ => rfl
theorem RowFound.writeOsc1AmpEnvSel (v : RegVal) : RowFound.Statement (.writeOsc1AmpEnvSel v) := fun _ => rfl
theorem RowFound.writeOsc1AmpEnvDepth (v : RegVal) : RowFound.Statement (.writeOsc1AmpEnvDepth v) := fun _ => rfl
theorem RowFound.writeOsc2Enable (v : RegVal) : RowFound.Statement (.writeOsc2Enable v) := fun _ => rfl
theorem RowFound.writeOsc2Waveform (v : RegVal) : RowFound.Statement (.writeOsc2Waveform v) := fun _ => rfl
theorem RowFound.writeOsc2PwmPercent (v : RegVal) : RowFound.Statement (.writeOsc2PwmPercent v) := fun _ => rfl
theorem RowFound.writeOsc2Octave (v : RegVal) : RowFound.Statement (.writeOsc2Octave v) := fun _ => rfl
theorem RowFound.writeOsc2Semitone (v : RegVal) : RowFound.Statement (.writeOsc2Semitone v) := fun _ => rfl
theorem RowFound.writeOsc2Cents (v : RegVal) : RowFound.Statement (.writeOsc2Cents v) := fun _ => rfl
theorem RowFound.writeOsc2SendF1 (v : RegVal) : RowFound.Statement (.writeOsc2SendF1 v) := fun _ => rfl
theorem RowFound.writeOsc2SendF2 (v : RegVal) : RowFound.Statement (.writeOsc2SendF2 v) := fun _ => rfl
theorem RowFound.writeOsc2Sync (v : RegVal) : RowFound.Statement (.writeOsc2Sync v) := fun _ => rfl
theorem RowFound.writeOsc2UnisonMode (v : RegVal) : RowFound.Statement (.writeOsc2UnisonMode v) := fun _ => rfl
theorem RowFound.writeOsc2UnisonDetune (v : RegVal) : RowFound.Statement (.writeOsc2UnisonDetune v) := fun _ => rfl
theorem RowFound.writeOsc2UnisonDist (v : RegVal) : RowFound.Statement (.writeOsc2UnisonDist v) := fun _ => rfl
theorem RowFound.writeOsc2UnisonLevel0 (v : RegVal) : RowFound.Statement (.writeOsc2UnisonLevel0 v) := fun _ => rfl
theorem RowFound.writeOsc2UnisonLevel1 (v : RegVal) : RowFound.Statement (.writeOsc2UnisonLevel1 v) := fun _ => rfl
theorem RowFound.writeOsc2UnisonLevel2 (v : RegVal) : RowFound.Statement (.writeOsc2UnisonLevel2 v) := fun _ => rfl
theorem RowFound.writeOsc2UnisonLevel3 (v : RegVal) : RowFound.Statement (.writeOsc2UnisonLevel3 v) := fun _ => rfl
theorem RowFound.writeOsc2UnisonLevel4 (v : RegVal) : RowFound.Statement (.writeOsc2UnisonLevel4 v) := fun _ => rfl
theorem RowFound.writeOsc2UnisonLevel5 (v : RegVal) : RowFound.Statement (.writeOsc2UnisonLevel5 v) := fun _ => rfl
theorem RowFound.writeOsc2UnisonLevel6 (v : RegVal) : RowFound.Statement (.writeOsc2UnisonLevel6 v) := fun _ => rfl
theorem RowFound.writeOsc2UnisonLevel7 (v : RegVal) : RowFound.Statement (.writeOsc2UnisonLevel7 v) := fun _ => rfl
theorem RowFound.writeOsc2UnisonLevel8 (v : RegVal) : RowFound.Statement (.writeOsc2UnisonLevel8 v) := fun _ => rfl
theorem RowFound.writeOsc2FreqLfoSel (v : RegVal) : RowFound.Statement (.writeOsc2FreqLfoSel v) := fun _ => rfl
theorem RowFound.writeOsc2FreqLfoDepth (v : RegVal) : RowFound.Statement (.writeOsc2FreqLfoDepth v) := fun _ => rfl
theorem RowFound.writeOsc2FreqEnvSel (v : RegVal) : RowFound.Statement (.writeOsc2FreqEnvSel v) := fun _ => rfl
theorem RowFound.writeOsc2FreqEnvDepth (v : RegVal) : RowFound.Statement (.writeOsc2FreqEnvDepth v) := fun _ => rfl
theorem RowFound.writeOsc2PwmLfoSel (v : RegVal) : RowFound.Statement (.writeOsc2PwmLfoSel v) := fun _ => rfl
theorem RowFound.writeOsc2PwmLfoDepth (v : RegVal) : RowFound.Statement (.writeOsc2PwmLfoDepth v) := fun _ => rfl
theorem RowFound.writeOsc2PwmEnvSel (v : RegVal) : RowFound.Statement (.writeOsc2PwmEnvSel v) := fun _ => rfl
theorem RowFound.writeOsc2PwmEnvDepth (v : RegVal) : RowFound.Statement (.writeOsc2PwmEnvDepth v) := fun _ => rfl
theorem RowFound.writeOsc2AmpLfoSel (v : RegVal) : RowFound.Statement (.writeOsc2AmpLfoSel v) := fun _ => rfl
theorem RowFound.writeOsc2AmpLfoDepth (v : RegVal) : RowFound.Statement (.writeOsc2AmpLfoDepth v) := fun _ => rfl
theorem RowFound.writeOsc2AmpEnvSel (v : RegVal) : RowFound.Statement (.writeOsc2AmpEnvSel v) := fun _ => rfl
theorem RowFound.writeOsc2AmpEnvDepth (v : RegVal) : RowFound.Statement (.writeOsc2AmpEnvDepth v) := fun _ => rfl
theorem RowFound.writeNoiseEnable (v : RegVal) : RowFound.Statement (.writeNoiseEnable v) := fun _ => rfl
theorem RowFound.writeNoiseColor (v : RegVal) : RowFound.Statement (.writeNoiseColor v) := fun _ => rfl
theorem RowFound.writeNoiseSendF1 (v : RegVal) : RowFound.Statement (.writeNoiseSendF1 v) := fun _ => rfl
theorem RowFound.writeNoiseSendF2 (v : RegVal) : RowFound.Statement (.writeNoiseSendF2 v) := fun _ => rfl
theorem RowFound.writeNoiseAmpLfoSel (v : RegVal) : RowFound.Statement (.writeNoiseAmpLfoSel v) := fun _ => rfl
theorem RowFound.writeNoiseAmpLfoDepth (v : RegVal) : RowFound.Statement (.writeNoiseAmpLfoDepth v) := fun _ => rfl
theorem RowFound.writeNoiseAmpEnvSel (v : RegVal) : RowFound.Statement (.writeNoiseAmpEnvSel v) := fun _ => rfl
theorem RowFound.writeNoiseAmpEnvDepth (v : RegVal) : RowFound.Statement (.writeNoiseAmpEnvDepth v) := fun _ => rfl
theorem RowFound.writeKsEnable (v : RegVal) : RowFound.Statement (.writeKsEnable v) := fun _ => rfl
theorem RowFound.writeKsExcitation (v : RegVal) : RowFound.Statement (.writeKsExcitation v) := fun _ => rfl
theorem RowFound.writeKsVariation (v : RegVal) : RowFound.Statement (.writeKsVariation v) := fun _ => rfl
theorem RowFound.writeKsStringDamp (v : RegVal) : RowFound.Statement (.writeKsStringDamp v) := fun _ => rfl
theorem RowFound.writeKsPluckDamp (v : RegVal) : RowFound.Statement (.writeKsPluckDamp v) := fun _ => rfl
theorem RowFound.writeKsDampMode (v : RegVal) : RowFound.Statement (.writeKsDampMode v) := fun _ => rfl
theorem RowFound.writeKsSendF1 (v : RegVal) : RowFound.Statement (.writeKsSendF1 v) := fun _ => rfl
theorem RowFound.writeKsSendF2 (v : RegVal) : RowFound.Statement (.writeKsSendF2 v) := fun _ => rfl
theorem RowFound.writeKsOnDecay (v : RegVal) : RowFound.Statement (.writeKsOnDecay v) := fun _ => rfl
theorem RowFound.writeKsOffDecay (v : RegVal) : RowFound.Statement (.writeKsOffDecay v) := fun _ => rfl
theorem RowFound.writeMsoEnable (v : RegVal) : RowFound.Statement (.writeMsoEnable v) := fun _ => rfl
theorem RowFound.writeMsoPwmPercent (v : RegVal) : RowFound.Statement (.writeMsoPwmPercent v) := fun _ => rfl
theorem RowFound.writeMsoOctave (v : RegVal) : RowFound.Statement (.writeMsoOctave v) := fun _ => rfl
theorem RowFound.writeMsoSemitone (v : RegVal) : RowFound.Statement (.writeMsoSemitone v) := fun _ => rfl
theorem RowFound.writeMsoCents (v : RegVal) : RowFound.Statement (.writeMsoCents v) := fun _ => rfl
theorem RowFound.writeMsoSendF1 (v : RegVal) : RowFound.Statement (.writeMsoSendF1 v) := fun _ => rfl
theorem RowFound.writeMsoSendF2 (v : RegVal) : RowFound.Statement (.writeMsoSendF2 v) := fun _ => rfl
theorem RowFound.writeMsoFreqLfoSel (v : RegVal) : RowFound.Statement (.writeMsoFreqLfoSel v) := fun _ => rfl
theorem RowFound.writeMsoFreqLfoDepth (v : RegVal) : RowFound.Statement (.writeMsoFreqLfoDepth v) := fun _ => rfl
theorem RowFound.writeMsoFreqEnvSel (v : RegVal) : RowFound.Statement (.writeMsoFreqEnvSel v) := fun _ => rfl
theorem RowFound.writeMsoFreqEnvDepth (v : RegVal) : RowFound.Statement (.writeMsoFreqEnvDepth v) := fun _ => rfl
theorem RowFound.writeMsoPwmLfoSel (v : RegVal) : RowFound.Statement (.writeMsoPwmLfoSel v) := fun _ => rfl
theorem RowFound.writeMsoPwmLfoDepth (v : RegVal) : RowFound.Statement (.writeMsoPwmLfoDepth v) := fun _ => rfl
theorem RowFound.writeMsoPwmEnvSel (v : RegVal) : RowFound.Statement (.writeMsoPwmEnvSel v) := fun _ => rfl
theorem RowFound.writeMsoPwmEnvDepth (v : RegVal) : RowFound.Statement (.writeMsoPwmEnvDepth v) := fun _ => rfl
theorem RowFound.writeMsoAmpLfoSel (v : RegVal) : RowFound.Statement (.writeMsoAmpLfoSel v) := fun _ => rfl
theorem RowFound.writeMsoAmpLfoDepth (v : RegVal) : RowFound.Statement (.writeMsoAmpLfoDepth v) := fun _ => rfl
theorem RowFound.writeMsoAmpEnvSel (v : RegVal) : RowFound.Statement (.writeMsoAmpEnvSel v) := fun _ => rfl
theorem RowFound.writeMsoAmpEnvDepth (v : RegVal) : RowFound.Statement (.writeMsoAmpEnvDepth v) := fun _ => rfl
theorem RowFound.writePadEnable (v : RegVal) : RowFound.Statement (.writePadEnable v) := fun _ => rfl
theorem RowFound.writePadOctave (v : RegVal) : RowFound.Statement (.writePadOctave v) := fun _ => rfl
theorem RowFound.writePadSemitone (v : RegVal) : RowFound.Statement (.writePadSemitone v) := fun _ => rfl
theorem RowFound.writePadCents (v : RegVal) : RowFound.Statement (.writePadCents v) := fun _ => rfl
theorem RowFound.writePadSendF1 (v : RegVal) : RowFound.Statement (.writePadSendF1 v) := fun _ => rfl
theorem RowFound.writePadSendF2 (v : RegVal) : RowFound.Statement (.writePadSendF2 v) := fun _ => rfl
theorem RowFound.writePadFreqLfoSel (v : RegVal) : RowFound.Statement (.writePadFreqLfoSel v) := fun _ => rfl
theorem RowFound.writePadFreqLfoDepth (v : RegVal) : RowFound.Statement (.writePadFreqLfoDepth v) := fun _ => rfl
theorem RowFound.writePadFreqEnvSel (v : RegVal) : RowFound.Statement (.writePadFreqEnvSel v) := fun _ => rfl
theorem RowFound.writePadFreqEnvDepth (v : RegVal) : RowFound.Statement (.writePadFreqEnvDepth v) := fun _ => rfl
theorem RowFound.writePadAmpLfoSel (v : RegVal) : RowFound.Statement (.writePadAmpLfoSel v) := fun _ => rfl
theorem RowFound.writePadAmpLfoDepth (v : RegVal) : RowFound.Statement (.writePadAmpLfoDepth v) := fun _ => rfl
theorem RowFound.writePadAmpEnvSel (v : RegVal) : RowFound.Statement (.writePadAmpEnvSel v) := fun _ => rfl
theorem RowFound.writePadAmpEnvDepth (v : RegVal) : RowFound.Statement (.writePadAmpEnvDepth v) := fun _ => rfl
theorem RowFound.writeFilt1Freq (v : RegVal) : RowFound.Statement (.writeFilt1Freq v) := fun _ => rfl
theorem RowFound.writeFilt1Octave (v : RegVal) : RowFound.Statement (.writeFilt1Octave v) := fun _ => rfl
theorem RowFound.writeFilt1Q (v : RegVal) : RowFound.Statement (.writeFilt1Q v) := fun _ => rfl
theorem RowFound.writeFilt1Band (v : RegVal) : RowFound.Statement (.writeFilt1Band v) := fun _ => rfl
theorem RowFound.writeFilt1KbdTrack (v : RegVal) : RowFound.Statement (.writeFilt1KbdTrack v) := fun _ => rfl
theorem RowFound.writeFilt1FreqLfoSel (v : RegVal) : RowFound.Statement (.writeFilt1FreqLfoSel v) := fun _ => rfl
theorem RowFound.writeFilt1FreqLfoDepth (v : RegVal) : RowFound.Statement (.writeFilt1FreqLfoDepth v) := fun _ => rfl
theorem RowFound.writeFilt1FreqEnvSel (v : RegVal) : RowFound.Statement (.writeFilt1FreqEnvSel v) := fun _ => rfl
theorem RowFound.writeFilt1FreqEnvDepth (v : RegVal) : RowFound.Statement (.writeFilt1FreqEnvDepth v) := fun _ => rfl
theorem RowFound.writeFilt2Freq (v : RegVal) : RowFound.Statement (.writeFilt2Freq v) := fun _ => rfl
theorem RowFound.writeFilt2Octave (v : RegVal) : RowFound.Statement (.writeFilt2Octave v) := fun _ => rfl
theorem RowFound.writeFilt2Q (v : RegVal) : RowFound.Statement (.writeFilt2Q v) := fun _ => rfl
theorem RowFound.writeFilt2Band (v : RegVal) : RowFound.Statement (.writeFilt2Band v) := fun _ => rfl
theorem RowFound.writeFilt2KbdTrack (v : RegVal) : RowFound.Statement (.writeFilt2KbdTrack v) := fun _ => rfl
theorem RowFound.writeFilt2FreqLfoSel (v : RegVal) : RowFound.Statement (.writeFilt2FreqLfoSel v) := fun _ => rfl
theorem RowFound.writeFilt2FreqLfoDepth (v : RegVal) : RowFound.Statement (.writeFilt2FreqLfoDepth v) := fun _ => rfl
theorem RowFound.writeFilt2FreqEnvSel (v : RegVal) : RowFound.Statement (.writeFilt2FreqEnvSel v) := fun _ => rfl
theorem RowFound.writeFilt2FreqEnvDepth (v : RegVal) : RowFound.Statement (.writeFilt2FreqEnvDepth v) := fun _ => rfl
theorem RowFound.writeDist1Enable (v : RegVal) : RowFound.Statement (.writeDist1Enable v) := fun _ => rfl
theorem RowFound.writeDist1Drive (v : RegVal) : RowFound.Statement (.writeDist1Drive v) := fun _ => rfl
theorem RowFound.writeDist1Range (v : RegVal) : RowFound.Statement (.writeDist1Range v) := fun _ => rfl
theorem RowFound.writeDist1Blend (v : RegVal) : RowFound.Statement (.writeDist1Blend v) := fun _ => rfl
theorem RowFound.writeDist1AutoGain (v : RegVal) : RowFound.Statement (.writeDist1AutoGain v) := fun _ => rfl
theorem RowFound.writeDist2Enable (v : RegVal) : RowFound.Statement (.writeDist2Enable v) := fun _ => rfl
theorem RowFound.writeDist2Drive (v : RegVal) : RowFound.Statement (.writeDist2Drive v) := fun _ => rfl
theorem RowFound.writeDist2Range (v : RegVal) : RowFound.Statement (.writeDist2Range v) := fun _ => rfl
theorem RowFound.writeDist2Blend (v : RegVal) : RowFound.Statement (.writeDist2Blend v) := fun _ => rfl
theorem RowFound.writeDist2AutoGain (v : RegVal) : RowFound.Statement (.writeDist2AutoGain v) := fun _ => rfl
theorem RowFound.writeAmpGain1 (v : RegVal) : RowFound.Statement (.writeAmpGain1 v) := fun _ => rfl
theorem RowFound.writeAmpPan1 (v : RegVal) : RowFound.Statement (.writeAmpPan1 v) := fun _ => rfl
theorem RowFound.writeAmpGain2 (v : RegVal) : RowFound.Statement (.writeAmpGain2 v) := fun _ => rfl
theorem RowFound.writeAmpPan2 (v : RegVal) : RowFound.Statement (.writeAmpPan2 v) := fun _ => rfl
theorem RowFound.writeAmpPan1LfoSel (v : RegVal) : RowFound.Statement (.writeAmpPan1LfoSel v) := fun _ => rfl
theorem RowFound.writeAmpPan1LfoDepth (v : RegVal) : RowFound.Statement (.writeAmpPan1LfoDepth v) := fun _ => rfl
theorem RowFound.writeAmpPan1EnvSel (v : RegVal) : RowFound.Statement (.writeAmpPan1EnvSel v) := fun _ => rfl
theorem RowFound.writeAmpPan1EnvDepth (v : RegVal) : RowFound.Statement (.writeAmpPan1EnvDepth v) := fun _ => rfl
theorem RowFound.writeAmpPan2LfoSel (v : RegVal) : RowFound.Statement (.writeAmpPan2LfoSel v) := fun _ => rfl
theorem RowFound.writeAmpPan2LfoDepth (v : RegVal) : RowFound.Statement (.writeAmpPan2LfoDepth v) := fun _ => rfl
theorem RowFound.writeAmpPan2EnvSel (v : RegVal) : RowFound.Statement (.writeAmpPan2EnvSel v) := fun _ => rfl
theorem RowFound.writeAmpPan2EnvDepth (v : RegVal) : RowFound.Statement (.writeAmpPan2EnvDepth v) := fun _ => rfl
theorem RowFound.writeLfo1Waveform (v : RegVal) : RowFound.Statement (.writeLfo1Waveform v) := fun _ => rfl
theorem RowFound.writeLfo1Rate (v : RegVal) : RowFound.Statement (.writeLfo1Rate v) := fun _ => rfl
theorem RowFound.writeLfo1Symmetry (v : RegVal) : RowFound.Statement (.writeLfo1Symmetry v) := fun _ => rfl
theorem RowFound.writeLfo2Waveform (v : RegVal) : RowFound.Statement (.writeLfo2Waveform v) := fun _ => rfl
theorem RowFound.writeLfo2Rate (v : RegVal) : RowFound.Statement (.writeLfo2Rate v) := fun _ => rfl
theorem RowFound.writeLfo2Symmetry (v : RegVal) : RowFound.Statement (.writeLfo2Symmetry v) := fun _ => rfl
theorem RowFound.writeLfo3Waveform (v : RegVal) : RowFound.Statement (.writeLfo3Waveform v) := fun _ => rfl
theorem RowFound.writeLfo3Rate (v : RegVal) : RowFound.Statement (.writeLfo3Rate v) := fun _ => rfl
theorem RowFound.writeLfo3Symmetry (v : RegVal) : RowFound.Statement (.writeLfo3Symmetry v) := fun _ => rfl
theorem RowFound.writeLfo4Waveform (v : RegVal) : RowFound.Statement (.writeLfo4Waveform v) := fun _ => rfl
theorem RowFound.writeLfo4Rate (v : RegVal) : RowFound.Statement (.writeLfo4Rate v) := fun _ => rfl
theorem RowFound.writeLfo4Symmetry (v : RegVal) : RowFound.Statement (.writeLfo4Symmetry v) := fun _ => rfl
theorem RowFound.writeLfo5Waveform (v : RegVal) : RowFound.Statement (.writeLfo5Waveform v) := fun _ => rfl
theorem RowFound.writeLfo5Rate (v : RegVal) : RowFound.Statement (.writeLfo5Rate v) := fun _ => rfl
theorem RowFound.writeLfo5Symmetry (v : RegVal) : RowFound.Statement (.writeLfo5Symmetry v) := fun _ => rfl
theorem RowFound.writeAdsr1Attack (v : RegVal) : RowFound.Statement (.writeAdsr1Attack v) := fun _ => rfl
theorem RowFound.writeAdsr1Decay (v : RegVal) : RowFound.Statement (.writeAdsr1Decay v) := fun _ => rfl
theorem RowFound.writeAdsr1Sustain (v : RegVal) : RowFound.Statement (.writeAdsr1Sustain v) := fun _ => rfl
theorem RowFound.writeAdsr1Release (v : RegVal) : RowFound.Statement (.writeAdsr1Release v) := fun _ => rfl
theorem RowFound.writeAdsr1Send1 (v : RegVal) : RowFound.Statement (.writeAdsr1Send1 v) := fun _ => rfl
theorem RowFound.writeAdsr1Send2 (v : RegVal) : RowFound.Statement (.writeAdsr1Send2 v) := fun _ => rfl
theorem RowFound.writeAdsr2Attack (v : RegVal) : RowFound.Statement (.writeAdsr2Attack v) := fun _ => rfl
theorem RowFound.writeAdsr2Decay (v : RegVal) : RowFound.Statement (.writeAdsr2Decay v) := fun _ => rfl
theorem RowFound.writeAdsr2Sustain (v : RegVal) : RowFound.Statement (.writeAdsr2Sustain v) := fun _ => rfl
theorem RowFound.writeAdsr2Release (v : RegVal) : RowFound.Statement (.writeAdsr2Release v) := fun _ => rfl
theorem RowFound.writeAdsr2Send1 (v : RegVal) : RowFound.Statement (.writeAdsr2Send1 v) := fun _ => rfl
theorem RowFound.writeAdsr2Send2 (v : RegVal) : RowFound.Statement (.writeAdsr2Send2 v) := fun _ => rfl
theorem RowFound.writeAdsr3Attack (v : RegVal) : RowFound.Statement (.writeAdsr3Attack v) := fun _ => rfl
theorem RowFound.writeAdsr3Decay (v : RegVal) : RowFound.Statement (.writeAdsr3Decay v) := fun _ => rfl
theorem RowFound.writeAdsr3Sustain (v : RegVal) : RowFound.Statement (.writeAdsr3Sustain v) := fun _ => rfl
theorem RowFound.writeAdsr3Release (v : RegVal) : RowFound.Statement (.writeAdsr3Release v) := fun _ => rfl
theorem RowFound.writeAdsr3Send1 (v : RegVal) : RowFound.Statement (.writeAdsr3Send1 v) := fun _ => rfl
theorem RowFound.writeAdsr3Send2 (v : RegVal) : RowFound.Statement (.writeAdsr3Send2 v) := fun _ => rfl
theorem RowFound.writeAdsr4Attack (v : RegVal) : RowFound.Statement (.writeAdsr4Attack v) := fun _ => rfl
theorem RowFound.writeAdsr4Decay (v : RegVal) : RowFound.Statement (.writeAdsr4Decay v) := fun _ => rfl
theorem RowFound.writeAdsr4Sustain (v : RegVal) : RowFound.Statement (.writeAdsr4Sustain v) := fun _ => rfl
theorem RowFound.writeAdsr4Release (v : RegVal) : RowFound.Statement (.writeAdsr4Release v) := fun _ => rfl
theorem RowFound.writeAdsr4Send1 (v : RegVal) : RowFound.Statement (.writeAdsr4Send1 v) := fun _ => rfl
theorem RowFound.writeAdsr4Send2 (v : RegVal) : RowFound.Statement (.writeAdsr4Send2 v) := fun _ => rfl
theorem RowFound.writeAdsr5Attack (v : RegVal) : RowFound.Statement (.writeAdsr5Attack v) := fun _ => rfl
theorem RowFound.writeAdsr5Decay (v : RegVal) : RowFound.Statement (.writeAdsr5Decay v) := fun _ => rfl
theorem RowFound.writeAdsr5Sustain (v : RegVal) : RowFound.Statement (.writeAdsr5Sustain v) := fun _ => rfl
theorem RowFound.writeAdsr5Release (v : RegVal) : RowFound.Statement (.writeAdsr5Release v) := fun _ => rfl
theorem RowFound.writeAdsr5Send1 (v : RegVal) : RowFound.Statement (.writeAdsr5Send1 v) := fun _ => rfl
theorem RowFound.writeAdsr5Send2 (v : RegVal) : RowFound.Statement (.writeAdsr5Send2 v) := fun _ => rfl
theorem RowFound.writePadbBaseNote (v : RegVal) : RowFound.Statement (.writePadbBaseNote v) := fun _ => rfl
theorem RowFound.writePadbHarm1 (v : RegVal) : RowFound.Statement (.writePadbHarm1 v) := fun _ => rfl
theorem RowFound.writePadbHarm2 (v : RegVal) : RowFound.Statement (.writePadbHarm2 v) := fun _ => rfl
theorem RowFound.writePadbHarm3 (v : RegVal) : RowFound.Statement (.writePadbHarm3 v) := fun _ => rfl
theorem RowFound.writePadbHarm4 (v : RegVal) : RowFound.Statement (.writePadbHarm4 v) := fun _ => rfl
theorem RowFound.writePadbHarm5 (v : RegVal) : RowFound.Statement (.writePadbHarm5 v) := fun _ => rfl
theorem RowFound.writePadbHarm6 (v : RegVal) : RowFound.Statement (.writePadbHarm6 v) := fun _ => rfl
theorem RowFound.writePadbHarm7 (v : RegVal) : RowFound.Statement (.writePadbHarm7 v) := fun _ => rfl
theorem RowFound.writePadbHarm8 (v : RegVal) : RowFound.Statement (.writePadbHarm8 v) := fun _ => rfl
theorem RowFound.writePadbHarm9 (v : RegVal) : RowFound.Statement (.writePadbHarm9 v) := fun _ => rfl
theorem RowFound.writePadbHarm10 (v : RegVal) : RowFound.Statement (.writePadbHarm10 v) := fun _ => rfl
theorem RowFound.writePadbShape (v : RegVal) : RowFound.Statement (.writePadbShape v) := fun _ => rfl
theorem RowFound.writePadbHalfCut (v : RegVal) : RowFound.Statement (.writePadbHalfCut v) := fun _ => rfl
theorem RowFound.writePadbBandwidth (v : RegVal) : RowFound.Statement (.writePadbBandwidth v) := fun _ => rfl
theorem RowFound.writePadbDetuneSpread (v : RegVal) : RowFound.Statement (.writePadbDetuneSpread v) := fun _ => rfl
theorem RowFound.writePadbQuality (v : RegVal) : RowFound.Statement (.writePadbQuality v) := fun _ => rfl
theorem RowFound.writeMsobBpA (v : RegVal) : RowFound.Statement (.writeMsobBpA v) := fun _ => rfl
theorem RowFound.writeMsobBpB (v : RegVal) : RowFound.Statement (.writeMsobBpB v) := fun _ => rfl
theorem RowFound.writeMsobBpC (v : RegVal) : RowFound.Statement (.writeMsobBpC v) := fun _ => rfl
theorem RowFound.writeMsobBpD (v : RegVal) : RowFound.Statement (.writeMsobBpD v) := fun _ => rfl
theorem RowFound.writeMsobBpE (v : RegVal) : RowFound.Statement (.writeMsobBpE v) := fun _ => rfl
theorem RowFound.writeMsobBpF (v : RegVal) : RowFound.Statement (.writeMsobBpF v) := fun _ => rfl
theorem RowFound.writeMsobSymmetry (v : RegVal) : RowFound.Statement (.writeMsobSymmetry v) := fun _ => rfl
theorem RowFound.nop : RowFound.Statement .nop := fun _ => rfl
theorem RowFound.noteOn : RowFound.Statement .noteOn := fun _ => rfl
theorem RowFound.noteOff : RowFound.Statement .noteOff := fun _ => rfl
theorem RowFound.tickControl : RowFound.Statement .tickControl := fun _ => rfl
theorem RowFound.renderSample : RowFound.Statement .renderSample := fun _ => rfl
theorem RowFound.clearFilters : RowFound.Statement .clearFilters := fun _ => rfl
theorem RowFound.buildPad : RowFound.Statement .buildPad := fun _ => rfl
theorem RowFound.readVoiceVoiceId : RowFound.Statement .readVoiceVoiceId := fun _ => rfl
theorem RowFound.readVoiceVoiceState : RowFound.Statement .readVoiceVoiceState := fun _ => rfl
theorem RowFound.readVoiceStatus : RowFound.Statement .readVoiceStatus := fun _ => rfl
theorem RowFound.readVoiceFreqHz : RowFound.Statement .readVoiceFreqHz := fun _ => rfl
theorem RowFound.readOsc1Enable : RowFound.Statement .readOsc1Enable := fun _ => rfl
theorem RowFound.readOsc1Waveform : RowFound.Statement .readOsc1Waveform := fun _ => rfl
theorem RowFound.readOsc1PwmPercent : RowFound.Statement .readOsc1PwmPercent := fun _ => rfl
theorem RowFound.readOsc1Octave : RowFound.Statement .readOsc1Octave := fun _ => rfl
theorem RowFound.readOsc1Semitone : RowFound.Statement .readOsc1Semitone := fun _ => rfl
theorem RowFound.readOsc1Cents : RowFound.Statement .readOsc1Cents := fun _ => rfl
theorem RowFound.readOsc1SendF1 : RowFound.Statement .readOsc1SendF1 := fun _ => rfl
theorem RowFound.readOsc1SendF2 : RowFound.Statement .readOsc1SendF2 := fun _ => rfl
theorem RowFound.readOsc1Sync : RowFound.Statement .readOsc1Sync := fun _ => rfl
theorem RowFound.readOsc1UnisonMode : RowFound.Statement .readOsc1UnisonMode := fun _ => rfl
theorem RowFound.readOsc1UnisonDetune : RowFound.Statement .readOsc1UnisonDetune := fun _ => rfl
theorem RowFound.readOsc1UnisonDist : RowFound.Statement .readOsc1UnisonDist := fun _ => rfl
theorem RowFound.readOsc1UnisonLevel0 : RowFound.Statement .readOsc1UnisonLevel0 := fun _ => rfl
theorem RowFound.readOsc1UnisonLevel1 : RowFound.Statement .readOsc1UnisonLevel1 := fun _ => rfl
theorem RowFound.readOsc1UnisonLevel2 : RowFound.Statement .readOsc1UnisonLevel2 := fun _ => rfl
theorem RowFound.readOsc1UnisonLevel3 : RowFound.Statement .readOsc1UnisonLevel3 := fun _ => rfl
theorem RowFound.readOsc1UnisonLevel4 : RowFound.Statement .readOsc1UnisonLevel4 := fun _ => rfl
theorem RowFound.readOsc1UnisonLevel5 : RowFound.Statement .readOsc1UnisonLevel5 := fun _ => rfl
theorem RowFound.readOsc1UnisonLevel6 : RowFound.Statement .readOsc1UnisonLevel6 := fun _ => rfl
theorem RowFound.readOsc1UnisonLevel7 : RowFound.Statement .readOsc1UnisonLevel7 := fun _ => rfl
theorem RowFound.readOsc1UnisonLevel8 : RowFound.Statement .readOsc1UnisonLevel8 := fun _ => rfl
theorem RowFound.readOsc1FreqLfoSel : RowFound.Statement .readOsc1FreqLfoSel := fun _ => rfl
theorem RowFound.readOsc1FreqLfoDepth : RowFound.Statement .readOsc1FreqLfoDepth := fun _ => rfl
theorem RowFound.readOsc1FreqEnvSel : RowFound.Statement .readOsc1FreqEnvSel := fun _ => rfl
theorem RowFound.readOsc1FreqEnvDepth : RowFound.Statement .readOsc1FreqEnvDepth := fun _ => rfl
theorem RowFound.readOsc1PwmLfoSel : RowFound.Statement .readOsc1PwmLfoSel := fun _ => rfl
theorem RowFound.readOsc1PwmLfoDepth : RowFound.Statement .readOsc1PwmLfoDepth := fun _ => rfl
theorem RowFound.readOsc1PwmEnvSel : RowFound.Statement .readOsc1PwmEnvSel := fun _ => rfl
theorem RowFound.readOsc1PwmEnvDepth : RowFound.Statement .readOsc1PwmEnvDepth := fun _ => rfl
theorem RowFound.readOsc1AmpLfoSel : RowFound.Statement .readOsc1AmpLfoSel := fun _ => rfl
theorem RowFound.readOsc1AmpLfoDepth : RowFound.Statement .readOsc1AmpLfoDepth := fun _ => rfl
theorem RowFound.readOsc1AmpEnvSel : RowFound.Statement .readOsc1AmpEnvSel := fun _ => rfl
theorem RowFound.readOsc1AmpEnvDepth : RowFound.Statement .readOsc1AmpEnvDepth := fun _ => rfl
theorem RowFound.readOsc2Enable : RowFound.Statement .readOsc2Enable := fun _ => rfl
theorem RowFound.readOsc2Waveform : RowFound.Statement .readOsc2Waveform := fun _ => rfl
theorem RowFound.readOsc2PwmPercent : RowFound.Statement .readOsc2PwmPercent := fun _ => rfl
theorem RowFound.readOsc2Octave : RowFound.Statement .readOsc2Octave := fun _ => rfl
theorem RowFound.readOsc2Semitone : RowFound.Statement .readOsc2Semitone := fun _ => rfl
theorem RowFound.readOsc2Cents : RowFound.Statement .readOsc2Cents := fun _ => rfl
theorem RowFound.readOsc2SendF1 : RowFound.Statement .readOsc2SendF1 := fun _ => rfl
theorem RowFound.readOsc2SendF2 : RowFound.Statement .readOsc2SendF2 := fun _ => rfl
theorem RowFound.readOsc2Sync : RowFound.Statement .readOsc2Sync := fun _ => rfl
theorem RowFound.readOsc2UnisonMode : RowFound.Statement .readOsc2UnisonMode := fun _ => rfl
theorem RowFound.readOsc2UnisonDetune : RowFound.Statement .readOsc2UnisonDetune := fun _ => rfl
theorem RowFound.readOsc2UnisonDist : RowFound.Statement .readOsc2UnisonDist := fun _ => rfl
theorem RowFound.readOsc2UnisonLevel0 : RowFound.Statement .readOsc2UnisonLevel0 := fun _ => rfl
theorem RowFound.readOsc2UnisonLevel1 : RowFound.Statement .readOsc2UnisonLevel1 := fun _ => rfl
theorem RowFound.readOsc2UnisonLevel2 : RowFound.Statement .readOsc2UnisonLevel2 := fun _ => rfl
theorem RowFound.readOsc2UnisonLevel3 : RowFound.Statement .readOsc2UnisonLevel3 := fun _ => rfl
theorem RowFound.readOsc2UnisonLevel4 : RowFound.Statement .readOsc2UnisonLevel4 := fun _ => rfl
theorem RowFound.readOsc2UnisonLevel5 : RowFound.Statement .readOsc2UnisonLevel5 := fun _ => rfl
theorem RowFound.readOsc2UnisonLevel6 : RowFound.Statement .readOsc2UnisonLevel6 := fun _ => rfl
theorem RowFound.readOsc2UnisonLevel7 : RowFound.Statement .readOsc2UnisonLevel7 := fun _ => rfl
theorem RowFound.readOsc2UnisonLevel8 : RowFound.Statement .readOsc2UnisonLevel8 := fun _ => rfl
theorem RowFound.readOsc2FreqLfoSel : RowFound.Statement .readOsc2FreqLfoSel := fun _ => rfl
theorem RowFound.readOsc2FreqLfoDepth : RowFound.Statement .readOsc2FreqLfoDepth := fun _ => rfl
theorem RowFound.readOsc2FreqEnvSel : RowFound.Statement .readOsc2FreqEnvSel := fun _ => rfl
theorem RowFound.readOsc2FreqEnvDepth : RowFound.Statement .readOsc2FreqEnvDepth := fun _ => rfl
theorem RowFound.readOsc2PwmLfoSel : RowFound.Statement .readOsc2PwmLfoSel := fun _ => rfl
theorem RowFound.readOsc2PwmLfoDepth : RowFound.Statement .readOsc2PwmLfoDepth := fun _ => rfl
theorem RowFound.readOsc2PwmEnvSel : RowFound.Statement .readOsc2PwmEnvSel := fun _ => rfl
theorem RowFound.readOsc2PwmEnvDepth : RowFound.Statement .readOsc2PwmEnvDepth := fun _ => rfl
theorem RowFound.readOsc2AmpLfoSel : RowFound.Statement .readOsc2AmpLfoSel := fun _ => rfl
theorem RowFound.readOsc2AmpLfoDepth : RowFound.Statement .readOsc2AmpLfoDepth := fun _ => rfl
theorem RowFound.readOsc2AmpEnvSel : RowFound.Statement .readOsc2AmpEnvSel := fun _ => rfl
theorem RowFound.readOsc2AmpEnvDepth : RowFound.Statement .readOsc2AmpEnvDepth := fun _ => rfl
theorem RowFound.readNoiseEnable : RowFound.Statement .readNoiseEnable := fun _ => rfl
theorem RowFound.readNoiseColor : RowFound.Statement .readNoiseColor := fun _ => rfl
theorem RowFound.readNoiseSendF1 : RowFound.Statement .readNoiseSendF1 := fun _ => rfl
theorem RowFound.readNoiseSendF2 : RowFound.Statement .readNoiseSendF2 := fun _ => rfl
theorem RowFound.readNoiseAmpLfoSel : RowFound.Statement .readNoiseAmpLfoSel := fun _ => rfl
theorem RowFound.readNoiseAmpLfoDepth : RowFound.Statement .readNoiseAmpLfoDepth := fun _ => rfl
theorem RowFound.readNoiseAmpEnvSel : RowFound.Statement .readNoiseAmpEnvSel := fun _ => rfl
theorem RowFound.readNoiseAmpEnvDepth : RowFound.Statement .readNoiseAmpEnvDepth := fun _ => rfl
theorem RowFound.readKsEnable : RowFound.Statement .readKsEnable := fun _ => rfl
theorem RowFound.readKsExcitation : RowFound.Statement .readKsExcitation := fun _ => rfl
theorem RowFound.readKsVariation : RowFound.Statement .readKsVariation := fun _ => rfl
theorem RowFound.readKsStringDamp : RowFound.Statement .readKsStringDamp := fun _ => rfl
theorem RowFound.readKsPluckDamp : RowFound.Statement .readKsPluckDamp := fun _ => rfl
theorem RowFound.readKsDampMode : RowFound.Statement .readKsDampMode := fun _ => rfl
theorem RowFound.readKsSendF1 : RowFound.Statement .readKsSendF1 := fun _ => rfl
theorem RowFound.readKsSendF2 : RowFound.Statement .readKsSendF2 := fun _ => rfl
theorem RowFound.readKsOnDecay : RowFound.Statement .readKsOnDecay := fun _ => rfl
theorem RowFound.readKsOffDecay : RowFound.Statement .readKsOffDecay := fun _ => rfl
theorem RowFound.readMsoEnable : RowFound.Statement .readMsoEnable := fun _ => rfl
theorem RowFound.readMsoPwmPercent : RowFound.Statement .readMsoPwmPercent := fun _ => rfl
theorem RowFound.readMsoOctave : RowFound.Statement .readMsoOctave := fun _ => rfl
theorem RowFound.readMsoSemitone : RowFound.Statement .readMsoSemitone := fun _ => rfl
theorem RowFound.readMsoCents : RowFound.Statement .readMsoCents := fun _ => rfl
theorem RowFound.readMsoSendF1 : RowFound.Statement .readMsoSendF1 := fun _ => rfl
theorem RowFound.readMsoSendF2 : RowFound.Statement .readMsoSendF2 := fun _ => rfl
theorem RowFound.readMsoFreqLfoSel : RowFound.Statement .readMsoFreqLfoSel := fun _ => rfl
theorem RowFound.readMsoFreqLfoDepth : RowFound.Statement .readMsoFreqLfoDepth := fun _ => rfl
theorem RowFound.readMsoFreqEnvSel : RowFound.Statement .readMsoFreqEnvSel := fun _ => rfl
theorem RowFound.readMsoFreqEnvDepth : RowFound.Statement .readMsoFreqEnvDepth := fun _ => rfl
theorem RowFound.readMsoPwmLfoSel : RowFound.Statement .readMsoPwmLfoSel := fun _ => rfl
theorem RowFound.readMsoPwmLfoDepth : RowFound.Statement .readMsoPwmLfoDepth := fun _ => rfl
theorem RowFound.readMsoPwmEnvSel : RowFound.Statement .readMsoPwmEnvSel := fun _ => rfl
theorem RowFound.readMsoPwmEnvDepth : RowFound.Statement .readMsoPwmEnvDepth := fun _ => rfl
theorem RowFound.readMsoAmpLfoSel : RowFound.Statement .readMsoAmpLfoSel := fun _ => rfl
theorem RowFound.readMsoAmpLfoDepth : RowFound.Statement .readMsoAmpLfoDepth := fun _ => rfl
theorem RowFound.readMsoAmpEnvSel : RowFound.Statement .readMsoAmpEnvSel := fun _ => rfl
theorem RowFound.readMsoAmpEnvDepth : RowFound.Statement .readMsoAmpEnvDepth := fun _ => rfl
theorem RowFound.readPadEnable : RowFound.Statement .readPadEnable := fun _ => rfl
theorem RowFound.readPadOctave : RowFound.Statement .readPadOctave := fun _ => rfl
theorem RowFound.readPadSemitone : RowFound.Statement .readPadSemitone := fun _ => rfl
theorem RowFound.readPadCents : RowFound.Statement .readPadCents := fun _ => rfl
theorem RowFound.readPadSendF1 : RowFound.Statement .readPadSendF1 := fun _ => rfl
theorem RowFound.readPadSendF2 : RowFound.Statement .readPadSendF2 := fun _ => rfl
theorem RowFound.readPadFreqLfoSel : RowFound.Statement .readPadFreqLfoSel := fun _ => rfl
theorem RowFound.readPadFreqLfoDepth : RowFound.Statement .readPadFreqLfoDepth := fun _ => rfl
theorem RowFound.readPadFreqEnvSel : RowFound.Statement .readPadFreqEnvSel := fun _ => rfl
theorem RowFound.readPadFreqEnvDepth : RowFound.Statement .readPadFreqEnvDepth := fun _ => rfl
theorem RowFound.readPadAmpLfoSel : RowFound.Statement .readPadAmpLfoSel := fun _ => rfl
theorem RowFound.readPadAmpLfoDepth : RowFound.Statement .readPadAmpLfoDepth := fun _ => rfl
theorem RowFound.readPadAmpEnvSel : RowFound.Statement .readPadAmpEnvSel := fun _ => rfl
theorem RowFound.readPadAmpEnvDepth : RowFound.Statement .readPadAmpEnvDepth := fun _ => rfl
theorem RowFound.readFilt1Freq : RowFound.Statement .readFilt1Freq := fun _ => rfl
theorem RowFound.readFilt1Octave : RowFound.Statement .readFilt1Octave := fun _ => rfl
theorem RowFound.readFilt1Q : RowFound.Statement .readFilt1Q := fun _ => rfl
theorem RowFound.readFilt1Band : RowFound.Statement .readFilt1Band := fun _ => rfl
theorem RowFound.readFilt1KbdTrack : RowFound.Statement .readFilt1KbdTrack := fun _ => rfl
theorem RowFound.readFilt1FreqLfoSel : RowFound.Statement .readFilt1FreqLfoSel := fun _ => rfl
theorem RowFound.readFilt1FreqLfoDepth : RowFound.Statement .readFilt1FreqLfoDepth := fun _ => rfl
theorem RowFound.readFilt1FreqEnvSel : RowFound.Statement .readFilt1FreqEnvSel := fun _ => rfl
theorem RowFound.readFilt1FreqEnvDepth : RowFound.Statement .readFilt1FreqEnvDepth := fun _ => rfl
theorem RowFound.readFilt2Freq : RowFound.Statement .readFilt2Freq := fun _ => rfl
theorem RowFound.readFilt2Octave : RowFound.Statement .readFilt2Octave := fun _ => rfl
theorem RowFound.readFilt2Q : RowFound.Statement .readFilt2Q := fun _ => rfl
theorem RowFound.readFilt2Band : RowFound.Statement .readFilt2Band := fun _ => rfl
theorem RowFound.readFilt2KbdTrack : RowFound.Statement .readFilt2KbdTrack := fun _ => rfl
theorem RowFound.readFilt2FreqLfoSel : RowFound.Statement .readFilt2FreqLfoSel := fun _ => rfl
theorem RowFound.readFilt2FreqLfoDepth : RowFound.Statement .readFilt2FreqLfoDepth := fun _ => rfl
theorem RowFound.readFilt2FreqEnvSel : RowFound.Statement .readFilt2FreqEnvSel := fun _ => rfl
theorem RowFound.readFilt2FreqEnvDepth : RowFound.Statement .readFilt2FreqEnvDepth := fun _ => rfl
theorem RowFound.readDist1Enable : RowFound.Statement .readDist1Enable := fun _ => rfl
theorem RowFound.readDist1Drive : RowFound.Statement .readDist1Drive := fun _ => rfl
theorem RowFound.readDist1Range : RowFound.Statement .readDist1Range := fun _ => rfl
theorem RowFound.readDist1Blend : RowFound.Statement .readDist1Blend := fun _ => rfl
theorem RowFound.readDist1AutoGain : RowFound.Statement .readDist1AutoGain := fun _ => rfl
theorem RowFound.readDist2Enable : RowFound.Statement .readDist2Enable := fun _ => rfl
theorem RowFound.readDist2Drive : RowFound.Statement .readDist2Drive := fun _ => rfl
theorem RowFound.readDist2Range : RowFound.Statement .readDist2Range := fun _ => rfl
theorem RowFound.readDist2Blend : RowFound.Statement .readDist2Blend := fun _ => rfl
theorem RowFound.readDist2AutoGain : RowFound.Statement .readDist2AutoGain := fun _ => rfl
theorem RowFound.readAmpGain1 : RowFound.Statement .readAmpGain1 := fun _ => rfl
theorem RowFound.readAmpPan1 : RowFound.Statement .readAmpPan1 := fun _ => rfl
theorem RowFound.readAmpGain2 : RowFound.Statement .readAmpGain2 := fun _ => rfl
theorem RowFound.readAmpPan2 : RowFound.Statement .readAmpPan2 := fun _ => rfl
theorem RowFound.readAmpPan1LfoSel : RowFound.Statement .readAmpPan1LfoSel := fun _ => rfl
theorem RowFound.readAmpPan1LfoDepth : RowFound.Statement .readAmpPan1LfoDepth := fun _ => rfl
theorem RowFound.readAmpPan1EnvSel : RowFound.Statement .readAmpPan1EnvSel := fun _ => rfl
theorem RowFound.readAmpPan1EnvDepth : RowFound.Statement .readAmpPan1EnvDepth := fun _ => rfl
theorem RowFound.readAmpPan2LfoSel : RowFound.Statement .readAmpPan2LfoSel := fun _ => rfl
theorem RowFound.readAmpPan2LfoDepth : RowFound.Statement .readAmpPan2LfoDepth := fun _ => rfl
theorem RowFound.readAmpPan2EnvSel : RowFound.Statement .readAmpPan2EnvSel := fun _ => rfl
theorem RowFound.readAmpPan2EnvDepth : RowFound.Statement .readAmpPan2EnvDepth := fun _ => rfl
theorem RowFound.readLfo1Waveform : RowFound.Statement .readLfo1Waveform := fun _ => rfl
theorem RowFound.readLfo1Rate : RowFound.Statement .readLfo1Rate := fun _ => rfl
theorem RowFound.readLfo1Symmetry : RowFound.Statement .readLfo1Symmetry := fun _ => rfl
theorem RowFound.readLfo2Waveform : RowFound.Statement .readLfo2Waveform := fun _ => rfl
theorem RowFound.readLfo2Rate : RowFound.Statement .readLfo2Rate := fun _ => rfl
theorem RowFound.readLfo2Symmetry : RowFound.Statement .readLfo2Symmetry := fun _ => rfl
theorem RowFound.readLfo3Waveform : RowFound.Statement .readLfo3Waveform := fun _ => rfl
theorem RowFound.readLfo3Rate : RowFound.Statement .readLfo3Rate := fun _ => rfl
theorem RowFound.readLfo3Symmetry : RowFound.Statement .readLfo3Symmetry := fun _ => rfl
theorem RowFound.readLfo4Waveform : RowFound.Statement .readLfo4Waveform := fun _ => rfl
theorem RowFound.readLfo4Rate : RowFound.Statement .readLfo4Rate := fun _ => rfl
theorem RowFound.readLfo4Symmetry : RowFound.Statement .readLfo4Symmetry := fun _ => rfl
theorem RowFound.readLfo5Waveform : RowFound.Statement .readLfo5Waveform := fun _ => rfl
theorem RowFound.readLfo5Rate : RowFound.Statement .readLfo5Rate := fun _ => rfl
theorem RowFound.readLfo5Symmetry : RowFound.Statement .readLfo5Symmetry := fun _ => rfl
theorem RowFound.readAdsr1Attack : RowFound.Statement .readAdsr1Attack := fun _ => rfl
theorem RowFound.readAdsr1Decay : RowFound.Statement .readAdsr1Decay := fun _ => rfl
theorem RowFound.readAdsr1Sustain : RowFound.Statement .readAdsr1Sustain := fun _ => rfl
theorem RowFound.readAdsr1Release : RowFound.Statement .readAdsr1Release := fun _ => rfl
theorem RowFound.readAdsr1Send1 : RowFound.Statement .readAdsr1Send1 := fun _ => rfl
theorem RowFound.readAdsr1Send2 : RowFound.Statement .readAdsr1Send2 := fun _ => rfl
theorem RowFound.readAdsr1State : RowFound.Statement .readAdsr1State := fun _ => rfl
theorem RowFound.readAdsr2Attack : RowFound.Statement .readAdsr2Attack := fun _ => rfl
theorem RowFound.readAdsr2Decay : RowFound.Statement .readAdsr2Decay := fun _ => rfl
theorem RowFound.readAdsr2Sustain : RowFound.Statement .readAdsr2Sustain := fun _ => rfl
theorem RowFound.readAdsr2Release : RowFound.Statement .readAdsr2Release := fun _ => rfl
theorem RowFound.readAdsr2Send1 : RowFound.Statement .readAdsr2Send1 := fun _ => rfl
theorem RowFound.readAdsr2Send2 : RowFound.Statement .readAdsr2Send2 := fun _ => rfl
theorem RowFound.readAdsr2State : RowFound.Statement .readAdsr2State := fun _ => rfl
theorem RowFound.readAdsr3Attack : RowFound.Statement .readAdsr3Attack := fun _ => rfl
theorem RowFound.readAdsr3Decay : RowFound.Statement .readAdsr3Decay := fun _ => rfl
theorem RowFound.readAdsr3Sustain : RowFound.Statement .readAdsr3Sustain := fun _ => rfl
theorem RowFound.readAdsr3Release : RowFound.Statement .readAdsr3Release := fun _ => rfl
theorem RowFound.readAdsr3Send1 : RowFound.Statement .readAdsr3Send1 := fun _ => rfl
theorem RowFound.readAdsr3Send2 : RowFound.Statement .readAdsr3Send2 := fun _ => rfl
theorem RowFound.readAdsr3State : RowFound.Statement .readAdsr3State := fun _ => rfl
theorem RowFound.readAdsr4Attack : RowFound.Statement .readAdsr4Attack := fun _ => rfl
theorem RowFound.readAdsr4Decay : RowFound.Statement .readAdsr4Decay := fun _ => rfl
theorem RowFound.readAdsr4Sustain : RowFound.Statement .readAdsr4Sustain := fun _ => rfl
theorem RowFound.readAdsr4Release : RowFound.Statement .readAdsr4Release := fun _ => rfl
theorem RowFound.readAdsr4Send1 : RowFound.Statement .readAdsr4Send1 := fun _ => rfl
theorem RowFound.readAdsr4Send2 : RowFound.Statement .readAdsr4Send2 := fun _ => rfl
theorem RowFound.readAdsr4State : RowFound.Statement .readAdsr4State := fun _ => rfl
theorem RowFound.readAdsr5Attack : RowFound.Statement .readAdsr5Attack := fun _ => rfl
theorem RowFound.readAdsr5Decay : RowFound.Statement .readAdsr5Decay := fun _ => rfl
theorem RowFound.readAdsr5Sustain : RowFound.Statement .readAdsr5Sustain := fun _ => rfl
theorem RowFound.readAdsr5Release : RowFound.Statement .readAdsr5Release := fun _ => rfl
theorem RowFound.readAdsr5Send1 : RowFound.Statement .readAdsr5Send1 := fun _ => rfl
theorem RowFound.readAdsr5Send2 : RowFound.Statement .readAdsr5Send2 := fun _ => rfl
theorem RowFound.readAdsr5State : RowFound.Statement .readAdsr5State := fun _ => rfl
theorem RowFound.readPadbBaseNote : RowFound.Statement .readPadbBaseNote := fun _ => rfl
theorem RowFound.readPadbHarm1 : RowFound.Statement .readPadbHarm1 := fun _ => rfl
theorem RowFound.readPadbHarm2 : RowFound.Statement .readPadbHarm2 := fun _ => rfl
theorem RowFound.readPadbHarm3 : RowFound.Statement .readPadbHarm3 := fun _ => rfl
theorem RowFound.readPadbHarm4 : RowFound.Statement .readPadbHarm4 := fun _ => rfl
theorem RowFound.readPadbHarm5 : RowFound.Statement .readPadbHarm5 := fun _ => rfl
theorem RowFound.readPadbHarm6 : RowFound.Statement .readPadbHarm6 := fun _ => rfl
theorem RowFound.readPadbHarm7 : RowFound.Statement .readPadbHarm7 := fun _ => rfl
theorem RowFound.readPadbHarm8 : RowFound.Statement .readPadbHarm8 := fun _ => rfl
theorem RowFound.readPadbHarm9 : RowFound.Statement .readPadbHarm9 := fun _ => rfl
theorem RowFound.readPadbHarm10 : RowFound.Statement .readPadbHarm10 := fun _ => rfl
theorem RowFound.readPadbShape : RowFound.Statement .readPadbShape := fun _ => rfl
theorem RowFound.readPadbHalfCut : RowFound.Statement .readPadbHalfCut := fun _ => rfl
theorem RowFound.readPadbBandwidth : RowFound.Statement .readPadbBandwidth := fun _ => rfl
theorem RowFound.readPadbDetuneSpread : RowFound.Statement .readPadbDetuneSpread := fun _ => rfl
theorem RowFound.readPadbQuality : RowFound.Statement .readPadbQuality := fun _ => rfl
theorem RowFound.readPadbBusy : RowFound.Statement .readPadbBusy := fun _ => rfl
theorem RowFound.readPadbGen : RowFound.Statement .readPadbGen := fun _ => rfl
theorem RowFound.readMsobBpA : RowFound.Statement .readMsobBpA := fun _ => rfl
theorem RowFound.readMsobBpB : RowFound.Statement .readMsobBpB := fun _ => rfl
theorem RowFound.readMsobBpC : RowFound.Statement .readMsobBpC := fun _ => rfl
theorem RowFound.readMsobBpD : RowFound.Statement .readMsobBpD := fun _ => rfl
theorem RowFound.readMsobBpE : RowFound.Statement .readMsobBpE := fun _ => rfl
theorem RowFound.readMsobBpF : RowFound.Statement .readMsobBpF := fun _ => rfl
theorem RowFound.readMsobSymmetry : RowFound.Statement .readMsobSymmetry := fun _ => rfl
theorem RowFound.readMsobBusy : RowFound.Statement .readMsobBusy := fun _ => rfl
theorem RowFound.readMsobGen : RowFound.Statement .readMsobGen := fun _ => rfl

end Sys2Proof.Laws
end

