-- ==== Sys2Proof/Tests/Slice0.lean ====
section
/-! SUPPORT. Small tests: refused ill-formed terms, the decoding of a written-out word of every constructor, single steps with the
values of 95_test_vectors.md, and for every statement a concrete input that meets its hypotheses. -/

namespace Sys2Proof.Tests

-- One theorem at a time: many kernel evaluations side by side would need a thread each.
set_option Elab.async false

open Sys2Proof Sys2Proof.Machine

/-! ## Well-formed instructions -/

/-- A register with a WRITE row, and STATUS, is not written by `writeParam`. -/
theorem test_wf_refuses_write : Instr.wf (.writeParam 0x100 1) = false ∧ Instr.wf (.writeParam 0x002 1) = false
    ∧ Instr.wf (.writeParam 0xF06 1) = false := by decide

/-- A mapped register, read-only ones too, is not read by `readParam`. -/
theorem test_wf_refuses_read : Instr.wf (.readParam 0x100) = false ∧ Instr.wf (.readParam 0x000) = false
    ∧ Instr.wf (.readParam 0xF11) = false := by decide

/-- Unmapped addresses and read-only targets have no row of their own. -/
theorem test_wf_accepts : Instr.wf (.writeParam 0x000 1) = true ∧ Instr.wf (.writeParam 0x0FF 1) = true
    ∧ Instr.wf (.readParam 0xC50) = true ∧ Instr.wf .nop = true := by decide

/-! ## Decoding

One word of each row of the opcode table, the match bits of the row with a value in the free bits. -/

theorem test_decode_commands :
    ([0x00000000, 0x10000001, 0x20FF0000, 0x3006B6C0, 0x40000000, 0x50000000, 0x60000000, 0x70000000, 0x80000000, 0x90000000,
      0xA0000000, 0xB0000001, 0xC1234567, 0xD8000000, 0xE0000F00, 0xFFFFFFFF] : List Word).map decode
    = ([.nop, .writeParam 0x000 1, .readParam 0x0FF, .setFrequency 440000, .noteOn, .noteOff, .tickControl, .renderSample,
      .clearFilters, .buildPad, .illegalA 0, .illegalB 1, .illegalC 0x1234567, .illegalD 0x8000000, .illegalE 0xF00,
      .illegalF 0xFFFFFFF] : List Instr).map .ok := rfl

theorem test_decode_write_voice :
    ([
      0x1002805B] : List Word).map decode = ([
      .writeVoiceStatus 0x805B] : List Instr).map .ok := rfl

theorem test_decode_read_voice :
    ([
      0x20000000, 0x20010000, 0x20020000, 0x20030000] : List Word).map decode = ([
      .readVoiceVoiceId, .readVoiceVoiceState, .readVoiceStatus, .readVoiceFreqHz] : List Instr).map .ok := rfl

theorem test_decode_write_osc1 :
    ([
      0x1100AD01, 0x1101AD2E, 0x11020038, 0x1103AD88, 0x1104ADB5, 0x1105003B, 0x1106AE0F, 0x1107AE3C, 0x1108003E, 0x1109AE96,
      0x110AAEC3, 0x110B0041, 0x110CAF1D, 0x110DAF4A, 0x110E0044, 0x110FAFA4, 0x1110AFD1, 0x11110047, 0x1112B02B, 0x1113B058,
      0x1114004A, 0x1118B139, 0x1119B166, 0x111A0050, 0x111BB1C0, 0x111CB1ED, 0x111D0053, 0x111EB247, 0x111FB274, 0x11200056,
      0x1121B2CE, 0x1122B2FB, 0x11230059] : List Word).map decode = ([
      .writeOsc1Enable 0xAD01, .writeOsc1Waveform 0xAD2E, .writeOsc1PwmPercent 0x0038, .writeOsc1Octave 0xAD88,
      .writeOsc1Semitone 0xADB5, .writeOsc1Cents 0x003B, .writeOsc1SendF1 0xAE0F, .writeOsc1SendF2 0xAE3C,
      .writeOsc1Sync 0x003E, .writeOsc1UnisonMode 0xAE96, .writeOsc1UnisonDetune 0xAEC3, .writeOsc1UnisonDist 0x0041,
      .writeOsc1UnisonLevel0 0xAF1D, .writeOsc1UnisonLevel1 0xAF4A, .writeOsc1UnisonLevel2 0x0044,
      .writeOsc1UnisonLevel3 0xAFA4, .writeOsc1UnisonLevel4 0xAFD1, .writeOsc1UnisonLevel5 0x0047,
      .writeOsc1UnisonLevel6 0xB02B, .writeOsc1UnisonLevel7 0xB058, .writeOsc1UnisonLevel8 0x004A,
      .writeOsc1FreqLfoSel 0xB139, .writeOsc1FreqLfoDepth 0xB166, .writeOsc1FreqEnvSel 0x0050, .writeOsc1FreqEnvDepth 0xB1C0,
      .writeOsc1PwmLfoSel 0xB1ED, .writeOsc1PwmLfoDepth 0x0053, .writeOsc1PwmEnvSel 0xB247, .writeOsc1PwmEnvDepth 0xB274,
      .writeOsc1AmpLfoSel 0x0056, .writeOsc1AmpLfoDepth 0xB2CE, .writeOsc1AmpEnvSel 0xB2FB, .writeOsc1AmpEnvDepth 0x0059] : List Instr).map .ok := rfl

theorem test_decode_read_osc1 :
    ([
      0x21000000, 0x21010000, 0x21020000, 0x21030000, 0x21040000, 0x21050000, 0x21060000, 0x21070000, 0x21080000, 0x21090000,
      0x210A0000, 0x210B0000, 0x210C0000, 0x210D0000, 0x210E0000, 0x210F0000, 0x21100000, 0x21110000, 0x21120000, 0x21130000,
      0x21140000, 0x21180000, 0x21190000, 0x211A0000, 0x211B0000, 0x211C0000, 0x211D0000, 0x211E0000, 0x211F0000, 0x21200000,
      0x21210000, 0x21220000, 0x21230000] : List Word).map decode = ([
      .readOsc1Enable, .readOsc1Waveform, .readOsc1PwmPercent, .readOsc1Octave, .readOsc1Semitone, .readOsc1Cents,
      .readOsc1SendF1, .readOsc1SendF2, .readOsc1Sync, .readOsc1UnisonMode, .readOsc1UnisonDetune, .readOsc1UnisonDist,
      .readOsc1UnisonLevel0, .readOsc1UnisonLevel1, .readOsc1UnisonLevel2, .readOsc1UnisonLevel3, .readOsc1UnisonLevel4,
      .readOsc1UnisonLevel5, .readOsc1UnisonLevel6, .readOsc1UnisonLevel7, .readOsc1UnisonLevel8, .readOsc1FreqLfoSel,
      .readOsc1FreqLfoDepth, .readOsc1FreqEnvSel, .readOsc1FreqEnvDepth, .readOsc1PwmLfoSel, .readOsc1PwmLfoDepth,
      .readOsc1PwmEnvSel, .readOsc1PwmEnvDepth, .readOsc1AmpLfoSel, .readOsc1AmpLfoDepth, .readOsc1AmpEnvSel,
      .readOsc1AmpEnvDepth] : List Instr).map .ok := rfl

theorem test_decode_write_osc2 :
    ([
      0x1200DA01, 0x12010008, 0x1202DA5B, 0x1203DA88, 0x1204000B, 0x1205DAE2, 0x1206DB0F, 0x1207000E, 0x1208DB69, 0x1209DB96,
      0x120A0011, 0x120BDBF0, 0x120CDC1D, 0x120D0014, 0x120EDC77, 0x120FDCA4, 0x12100017, 0x1211DCFE, 0x1212DD2B, 0x1213001A,
      0x1214DD85, 0x1218DE39, 0x12190020, 0x121ADE93, 0x121BDEC0, 0x121C0023, 0x121DDF1A, 0x121EDF47, 0x121F0026, 0x1220DFA1,
      0x1221DFCE, 0x12220029, 0x1223E028] : List Word).map decode = ([
      .writeOsc2Enable 0xDA01, .writeOsc2Waveform 0x0008, .writeOsc2PwmPercent 0xDA5B, .writeOsc2Octave 0xDA88,
      .writeOsc2Semitone 0x000B, .writeOsc2Cents 0xDAE2, .writeOsc2SendF1 0xDB0F, .writeOsc2SendF2 0x000E,
      .writeOsc2Sync 0xDB69, .writeOsc2UnisonMode 0xDB96, .writeOsc2UnisonDetune 0x0011, .writeOsc2UnisonDist 0xDBF0,
      .writeOsc2UnisonLevel0 0xDC1D, .writeOsc2UnisonLevel1 0x0014, .writeOsc2UnisonLevel2 0xDC77,
      .writeOsc2UnisonLevel3 0xDCA4, .writeOsc2UnisonLevel4 0x0017, .writeOsc2UnisonLevel5 0xDCFE,
      .writeOsc2UnisonLevel6 0xDD2B, .writeOsc2UnisonLevel7 0x001A, .writeOsc2UnisonLevel8 0xDD85,
      .writeOsc2FreqLfoSel 0xDE39, .writeOsc2FreqLfoDepth 0x0020, .writeOsc2FreqEnvSel 0xDE93, .writeOsc2FreqEnvDepth 0xDEC0,
      .writeOsc2PwmLfoSel 0x0023, .writeOsc2PwmLfoDepth 0xDF1A, .writeOsc2PwmEnvSel 0xDF47, .writeOsc2PwmEnvDepth 0x0026,
      .writeOsc2AmpLfoSel 0xDFA1, .writeOsc2AmpLfoDepth 0xDFCE, .writeOsc2AmpEnvSel 0x0029, .writeOsc2AmpEnvDepth 0xE028] : List Instr).map .ok := rfl

theorem test_decode_read_osc2 :
    ([
      0x22000000, 0x22010000, 0x22020000, 0x22030000, 0x22040000, 0x22050000, 0x22060000, 0x22070000, 0x22080000, 0x22090000,
      0x220A0000, 0x220B0000, 0x220C0000, 0x220D0000, 0x220E0000, 0x220F0000, 0x22100000, 0x22110000, 0x22120000, 0x22130000,
      0x22140000, 0x22180000, 0x22190000, 0x221A0000, 0x221B0000, 0x221C0000, 0x221D0000, 0x221E0000, 0x221F0000, 0x22200000,
      0x22210000, 0x22220000, 0x22230000] : List Word).map decode = ([
      .readOsc2Enable, .readOsc2Waveform, .readOsc2PwmPercent, .readOsc2Octave, .readOsc2Semitone, .readOsc2Cents,
      .readOsc2SendF1, .readOsc2SendF2, .readOsc2Sync, .readOsc2UnisonMode, .readOsc2UnisonDetune, .readOsc2UnisonDist,
      .readOsc2UnisonLevel0, .readOsc2UnisonLevel1, .readOsc2UnisonLevel2, .readOsc2UnisonLevel3, .readOsc2UnisonLevel4,
      .readOsc2UnisonLevel5, .readOsc2UnisonLevel6, .readOsc2UnisonLevel7, .readOsc2UnisonLevel8, .readOsc2FreqLfoSel,
      .readOsc2FreqLfoDepth, .readOsc2FreqEnvSel, .readOsc2FreqEnvDepth, .readOsc2PwmLfoSel, .readOsc2PwmLfoDepth,
      .readOsc2PwmEnvSel, .readOsc2PwmEnvDepth, .readOsc2AmpLfoSel, .readOsc2AmpLfoDepth, .readOsc2AmpEnvSel,
      .readOsc2AmpEnvDepth] : List Instr).map .ok := rfl

theorem test_decode_write_noise :
    ([
      0x1300003D, 0x1301072E, 0x13060043, 0x1307083C, 0x13200CA1, 0x1321005E, 0x13220CFB, 0x13230D28] : List Word).map decode = ([
      .writeNoiseEnable 0x003D, .writeNoiseColor 0x072E, .writeNoiseSendF1 0x0043, .writeNoiseSendF2 0x083C,
      .writeNoiseAmpLfoSel 0x0CA1, .writeNoiseAmpLfoDepth 0x005E, .writeNoiseAmpEnvSel 0x0CFB, .writeNoiseAmpEnvDepth 0x0D28] : List Instr).map .ok := rfl

theorem test_decode_read_noise :
    ([
      0x23000000, 0x23010000, 0x23060000, 0x23070000, 0x23200000, 0x23210000, 0x23220000, 0x23230000] : List Word).map decode = ([
      .readNoiseEnable, .readNoiseColor, .readNoiseSendF1, .readNoiseSendF2, .readNoiseAmpLfoSel, .readNoiseAmpLfoDepth,
      .readNoiseAmpEnvSel, .readNoiseAmpEnvDepth] : List Instr).map .ok := rfl

theorem test_decode_write_ks :
    ([
      0x14003401, 0x1401342E, 0x14020010, 0x14033488, 0x140434B5, 0x14050013, 0x1406350F, 0x1407353C, 0x14080016, 0x14093596] : List Word).map decode = ([
      .writeKsEnable 0x3401, .writeKsExcitation 0x342E, .writeKsVariation 0x0010, .writeKsStringDamp 0x3488,
      .writeKsPluckDamp 0x34B5, .writeKsDampMode 0x0013, .writeKsSendF1 0x350F, .writeKsSendF2 0x353C,
      .writeKsOnDecay 0x0016, .writeKsOffDecay 0x3596] : List Instr).map .ok := rfl

theorem test_decode_read_ks :
    ([
      0x24000000, 0x24010000, 0x24020000, 0x24030000, 0x24040000, 0x24050000, 0x24060000, 0x24070000, 0x24080000, 0x24090000] : List Word).map decode = ([
      .readKsEnable, .readKsExcitation, .readKsVariation, .readKsStringDamp, .readKsPluckDamp, .readKsDampMode,
      .readKsSendF1, .readKsSendF2, .readKsOnDecay, .readKsOffDecay] : List Instr).map .ok := rfl

theorem test_decode_write_mso :
    ([
      0x15006101, 0x1502615B, 0x15036188, 0x15040048, 0x150561E2, 0x1506620F, 0x1507004B, 0x15186539, 0x1519005D, 0x151A6593,
      0x151B65C0, 0x151C0060, 0x151D661A, 0x151E6647, 0x151F0063, 0x152066A1, 0x152166CE, 0x15220001, 0x15236728] : List Word).map decode = ([
      .writeMsoEnable 0x6101, .writeMsoPwmPercent 0x615B, .writeMsoOctave 0x6188, .writeMsoSemitone 0x0048,
      .writeMsoCents 0x61E2, .writeMsoSendF1 0x620F, .writeMsoSendF2 0x004B, .writeMsoFreqLfoSel 0x6539,
      .writeMsoFreqLfoDepth 0x005D, .writeMsoFreqEnvSel 0x6593, .writeMsoFreqEnvDepth 0x65C0, .writeMsoPwmLfoSel 0x0060,
      .writeMsoPwmLfoDepth 0x661A, .writeMsoPwmEnvSel 0x6647, .writeMsoPwmEnvDepth 0x0063, .writeMsoAmpLfoSel 0x66A1,
      .writeMsoAmpLfoDepth 0x66CE, .writeMsoAmpEnvSel 0x0001, .writeMsoAmpEnvDepth 0x6728] : List Instr).map .ok := rfl

theorem test_decode_read_mso :
    ([
      0x25000000, 0x25020000, 0x25030000, 0x25040000, 0x25050000, 0x25060000, 0x25070000, 0x25180000, 0x25190000, 0x251A0000,
      0x251B0000, 0x251C0000, 0x251D0000, 0x251E0000, 0x251F0000, 0x25200000, 0x25210000, 0x25220000, 0x25230000] : List Word).map decode = ([
      .readMsoEnable, .readMsoPwmPercent, .readMsoOctave, .readMsoSemitone, .readMsoCents, .readMsoSendF1, .readMsoSendF2,
      .readMsoFreqLfoSel, .readMsoFreqLfoDepth, .readMsoFreqEnvSel, .readMsoFreqEnvDepth, .readMsoPwmLfoSel,
      .readMsoPwmLfoDepth, .readMsoPwmEnvSel, .readMsoPwmEnvDepth, .readMsoAmpLfoSel, .readMsoAmpLfoDepth, .readMsoAmpEnvSel,
      .readMsoAmpEnvDepth] : List Instr).map .ok := rfl

theorem test_decode_write_pad :
    ([
      0x16000015, 0x16030018, 0x16048EB5, 0x16058EE2, 0x1606001B, 0x16078F3C, 0x1618002D, 0x16199266, 0x161A9293, 0x161B0030,
      0x162093A1, 0x16210036, 0x162293FB, 0x16239428] : List Word).map decode = ([
      .writePadEnable 0x0015, .writePadOctave 0x0018, .writePadSemitone 0x8EB5, .writePadCents 0x8EE2,
      .writePadSendF1 0x001B, .writePadSendF2 0x8F3C, .writePadFreqLfoSel 0x002D, .writePadFreqLfoDepth 0x9266,
      .writePadFreqEnvSel 0x9293, .writePadFreqEnvDepth 0x0030, .writePadAmpLfoSel 0x93A1, .writePadAmpLfoDepth 0x0036,
      .writePadAmpEnvSel 0x93FB, .writePadAmpEnvDepth 0x9428] : List Instr).map .ok := rfl

theorem test_decode_read_pad :
    ([
      0x26000000, 0x26030000, 0x26040000, 0x26050000, 0x26060000, 0x26070000, 0x26180000, 0x26190000, 0x261A0000, 0x261B0000,
      0x26200000, 0x26210000, 0x26220000, 0x26230000] : List Word).map decode = ([
      .readPadEnable, .readPadOctave, .readPadSemitone, .readPadCents, .readPadSendF1, .readPadSendF2, .readPadFreqLfoSel,
      .readPadFreqLfoDepth, .readPadFreqEnvSel, .readPadFreqEnvDepth, .readPadAmpLfoSel, .readPadAmpLfoDepth,
      .readPadAmpEnvSel, .readPadAmpEnvDepth] : List Instr).map .ok := rfl

theorem test_decode_write_filt1 :
    ([
      0x1700BB01, 0x1701BB2E, 0x1702004D, 0x1703BB88, 0x1704BBB5, 0x1718BF39, 0x1719BF66, 0x171A0000, 0x171BBFC0] : List Word).map decode = ([
      .writeFilt1Freq 0xBB01, .writeFilt1Octave 0xBB2E, .writeFilt1Q 0x004D, .writeFilt1Band 0xBB88,
      .writeFilt1KbdTrack 0xBBB5, .writeFilt1FreqLfoSel 0xBF39, .writeFilt1FreqLfoDepth 0xBF66, .writeFilt1FreqEnvSel 0x0000,
      .writeFilt1FreqEnvDepth 0xBFC0] : List Instr).map .ok := rfl

theorem test_decode_read_filt1 :
    ([
      0x27000000, 0x27010000, 0x27020000, 0x27030000, 0x27040000, 0x27180000, 0x27190000, 0x271A0000, 0x271B0000] : List Word).map decode = ([
      .readFilt1Freq, .readFilt1Octave, .readFilt1Q, .readFilt1Band, .readFilt1KbdTrack, .readFilt1FreqLfoSel,
      .readFilt1FreqLfoDepth, .readFilt1FreqEnvSel, .readFilt1FreqEnvDepth] : List Instr).map .ok := rfl

theorem test_decode_write_filt2 :
    ([
      0x1800E801, 0x1801001D, 0x1802E85B, 0x1803E888, 0x18040020, 0x1818EC39, 0x18190035, 0x181AEC93, 0x181BECC0] : List Word).map decode = ([
      .writeFilt2Freq 0xE801, .writeFilt2Octave 0x001D, .writeFilt2Q 0xE85B, .writeFilt2Band 0xE888,
      .writeFilt2KbdTrack 0x0020, .writeFilt2FreqLfoSel 0xEC39, .writeFilt2FreqLfoDepth 0x0035, .writeFilt2FreqEnvSel 0xEC93,
      .writeFilt2FreqEnvDepth 0xECC0] : List Instr).map .ok := rfl

theorem test_decode_read_filt2 :
    ([
      0x28000000, 0x28010000, 0x28020000, 0x28030000, 0x28040000, 0x28180000, 0x28190000, 0x281A0000, 0x281B0000] : List Word).map decode = ([
      .readFilt2Freq, .readFilt2Octave, .readFilt2Q, .readFilt2Band, .readFilt2KbdTrack, .readFilt2FreqLfoSel,
      .readFilt2FreqLfoDepth, .readFilt2FreqEnvSel, .readFilt2FreqEnvDepth] : List Instr).map .ok := rfl

theorem test_decode_write_dist1 :
    ([
      0x19000052, 0x1901152E, 0x1902155B, 0x19030055, 0x190415B5] : List Word).map decode = ([
      .writeDist1Enable 0x0052, .writeDist1Drive 0x152E, .writeDist1Range 0x155B, .writeDist1Blend 0x0055,
      .writeDist1AutoGain 0x15B5] : List Instr).map .ok := rfl

theorem test_decode_read_dist1 :
    ([
      0x29000000, 0x29010000, 0x29020000, 0x29030000, 0x29040000] : List Word).map decode = ([
      .readDist1Enable, .readDist1Drive, .readDist1Range, .readDist1Blend, .readDist1AutoGain] : List Instr).map .ok := rfl

theorem test_decode_write_dist2 :
    ([
      0x1A004201, 0x1A01422E, 0x1A020025, 0x1A034288, 0x1A0442B5] : List Word).map decode = ([
      .writeDist2Enable 0x4201, .writeDist2Drive 0x422E, .writeDist2Range 0x0025, .writeDist2Blend 0x4288,
      .writeDist2AutoGain 0x42B5] : List Instr).map .ok := rfl

theorem test_decode_read_dist2 :
    ([
      0x2A000000, 0x2A010000, 0x2A020000, 0x2A030000, 0x2A040000] : List Word).map decode = ([
      .readDist2Enable, .readDist2Drive, .readDist2Range, .readDist2Blend, .readDist2AutoGain] : List Instr).map .ok := rfl

theorem test_decode_write_amp :
    ([
      0x1B006F01, 0x1B01005A, 0x1B026F5B, 0x1B036F88, 0x1B187339, 0x1B19000D, 0x1B1A7393, 0x1B1B73C0, 0x1B1C0010, 0x1B1D741A,
      0x1B1E7447, 0x1B1F0013] : List Word).map decode = ([
      .writeAmpGain1 0x6F01, .writeAmpPan1 0x005A, .writeAmpGain2 0x6F5B, .writeAmpPan2 0x6F88, .writeAmpPan1LfoSel 0x7339,
      .writeAmpPan1LfoDepth 0x000D, .writeAmpPan1EnvSel 0x7393, .writeAmpPan1EnvDepth 0x73C0, .writeAmpPan2LfoSel 0x0010,
      .writeAmpPan2LfoDepth 0x741A, .writeAmpPan2EnvSel 0x7447, .writeAmpPan2EnvDepth 0x0013] : List Instr).map .ok := rfl

theorem test_decode_read_amp :
    ([
      0x2B000000, 0x2B010000, 0x2B020000, 0x2B030000, 0x2B180000, 0x2B190000, 0x2B1A0000, 0x2B1B0000, 0x2B1C0000, 0x2B1D0000,
      0x2B1E0000, 0x2B1F0000] : List Word).map decode = ([
      .readAmpGain1, .readAmpPan1, .readAmpGain2, .readAmpPan2, .readAmpPan1LfoSel, .readAmpPan1LfoDepth, .readAmpPan1EnvSel,
      .readAmpPan1EnvDepth, .readAmpPan2LfoSel, .readAmpPan2LfoDepth, .readAmpPan2EnvSel, .readAmpPan2EnvDepth] : List Instr).map .ok := rfl

theorem test_decode_write_lfo :
    ([
      0x1C00002A, 0x1C019C2E, 0x1C029C5B, 0x1C109ED1, 0x1C119EFE, 0x1C12003C, 0x1C20A1A1, 0x1C21004B, 0x1C22A1FB, 0x1C30005A,
      0x1C31A49E, 0x1C32A4CB, 0x1C40A741, 0x1C41A76E, 0x1C420007] : List Word).map decode = ([
      .writeLfo1Waveform 0x002A, .writeLfo1Rate 0x9C2E, .writeLfo1Symmetry 0x9C5B, .writeLfo2Waveform 0x9ED1,
      .writeLfo2Rate 0x9EFE, .writeLfo2Symmetry 0x003C, .writeLfo3Waveform 0xA1A1, .writeLfo3Rate 0x004B,
      .writeLfo3Symmetry 0xA1FB, .writeLfo4Waveform 0x005A, .writeLfo4Rate 0xA49E, .writeLfo4Symmetry 0xA4CB,
      .writeLfo5Waveform 0xA741, .writeLfo5Rate 0xA76E, .writeLfo5Symmetry 0x0007] : List Instr).map .ok := rfl

theorem test_decode_read_lfo :
    ([
      0x2C000000, 0x2C010000, 0x2C020000, 0x2C100000, 0x2C110000, 0x2C120000, 0x2C200000, 0x2C210000, 0x2C220000, 0x2C300000,
      0x2C310000, 0x2C320000, 0x2C400000, 0x2C410000, 0x2C420000] : List Word).map decode = ([
      .readLfo1Waveform, .readLfo1Rate, .readLfo1Symmetry, .readLfo2Waveform, .readLfo2Rate, .readLfo2Symmetry,
      .readLfo3Waveform, .readLfo3Rate, .readLfo3Symmetry, .readLfo4Waveform, .readLfo4Rate, .readLfo4Symmetry,
      .readLfo5Waveform, .readLfo5Rate, .readLfo5Symmetry] : List Instr).map .ok := rfl

theorem test_decode_write_adsr :
    ([
      0x1D00C901, 0x1D01C92E, 0x1D020062, 0x1D03C988, 0x1D04C9B5, 0x1D050000, 0x1D10CBD1, 0x1D11000C, 0x1D12CC2B, 0x1D13CC58,
      0x1D14000F, 0x1D15CCB2, 0x1D20001B, 0x1D21CECE, 0x1D22CEFB, 0x1D23001E, 0x1D24CF55, 0x1D25CF82, 0x1D30D171, 0x1D31D19E,
      0x1D32002D, 0x1D33D1F8, 0x1D34D225, 0x1D350030, 0x1D40D441, 0x1D41003C, 0x1D42D49B, 0x1D43D4C8, 0x1D44003F, 0x1D45D522] : List Word).map decode = ([
      .writeAdsr1Attack 0xC901, .writeAdsr1Decay 0xC92E, .writeAdsr1Sustain 0x0062, .writeAdsr1Release 0xC988,
      .writeAdsr1Send1 0xC9B5, .writeAdsr1Send2 0x0000, .writeAdsr2Attack 0xCBD1, .writeAdsr2Decay 0x000C,
      .writeAdsr2Sustain 0xCC2B, .writeAdsr2Release 0xCC58, .writeAdsr2Send1 0x000F, .writeAdsr2Send2 0xCCB2,
      .writeAdsr3Attack 0x001B, .writeAdsr3Decay 0xCECE, .writeAdsr3Sustain 0xCEFB, .writeAdsr3Release 0x001E,
      .writeAdsr3Send1 0xCF55, .writeAdsr3Send2 0xCF82, .writeAdsr4Attack 0xD171, .writeAdsr4Decay 0xD19E,
      .writeAdsr4Sustain 0x002D, .writeAdsr4Release 0xD1F8, .writeAdsr4Send1 0xD225, .writeAdsr4Send2 0x0030,
      .writeAdsr5Attack 0xD441, .writeAdsr5Decay 0x003C, .writeAdsr5Sustain 0xD49B, .writeAdsr5Release 0xD4C8,
      .writeAdsr5Send1 0x003F, .writeAdsr5Send2 0xD522] : List Instr).map .ok := rfl

theorem test_decode_read_adsr :
    ([
      0x2D000000, 0x2D010000, 0x2D020000, 0x2D030000, 0x2D040000, 0x2D050000, 0x2D080000, 0x2D100000, 0x2D110000, 0x2D120000,
      0x2D130000, 0x2D140000, 0x2D150000, 0x2D180000, 0x2D200000, 0x2D210000, 0x2D220000, 0x2D230000, 0x2D240000, 0x2D250000,
      0x2D280000, 0x2D300000, 0x2D310000, 0x2D320000, 0x2D330000, 0x2D340000, 0x2D350000, 0x2D380000, 0x2D400000, 0x2D410000,
      0x2D420000, 0x2D430000, 0x2D440000, 0x2D450000, 0x2D480000] : List Word).map decode = ([
      .readAdsr1Attack, .readAdsr1Decay, .readAdsr1Sustain, .readAdsr1Release, .readAdsr1Send1, .readAdsr1Send2,
      .readAdsr1State, .readAdsr2Attack, .readAdsr2Decay, .readAdsr2Sustain, .readAdsr2Release, .readAdsr2Send1,
      .readAdsr2Send2, .readAdsr2State, .readAdsr3Attack, .readAdsr3Decay, .readAdsr3Sustain, .readAdsr3Release,
      .readAdsr3Send1, .readAdsr3Send2, .readAdsr3State, .readAdsr4Attack, .readAdsr4Decay, .readAdsr4Sustain,
      .readAdsr4Release, .readAdsr4Send1, .readAdsr4Send2, .readAdsr4State, .readAdsr5Attack, .readAdsr5Decay,
      .readAdsr5Sustain, .readAdsr5Release, .readAdsr5Send1, .readAdsr5Send2, .readAdsr5State] : List Instr).map .ok := rfl

theorem test_decode_write_padb :
    ([
      0x1E00F601, 0x1E010032, 0x1E02F65B, 0x1E03F688, 0x1E040035, 0x1E05F6E2, 0x1E06F70F, 0x1E070038, 0x1E08F769, 0x1E09F796,
      0x1E0A003B, 0x1E0BF7F0, 0x1E0CF81D, 0x1E0D003E, 0x1E0EF877, 0x1E0FF8A4] : List Word).map decode = ([
      .writePadbBaseNote 0xF601, .writePadbHarm1 0x0032, .writePadbHarm2 0xF65B, .writePadbHarm3 0xF688,
      .writePadbHarm4 0x0035, .writePadbHarm5 0xF6E2, .writePadbHarm6 0xF70F, .writePadbHarm7 0x0038, .writePadbHarm8 0xF769,
      .writePadbHarm9 0xF796, .writePadbHarm10 0x003B, .writePadbShape 0xF7F0, .writePadbHalfCut 0xF81D,
      .writePadbBandwidth 0x003E, .writePadbDetuneSpread 0xF877, .writePadbQuality 0xF8A4] : List Instr).map .ok := rfl

theorem test_decode_read_padb :
    ([
      0x2E000000, 0x2E010000, 0x2E020000, 0x2E030000, 0x2E040000, 0x2E050000, 0x2E060000, 0x2E070000, 0x2E080000, 0x2E090000,
      0x2E0A0000, 0x2E0B0000, 0x2E0C0000, 0x2E0D0000, 0x2E0E0000, 0x2E0F0000, 0x2E100000, 0x2E110000] : List Word).map decode = ([
      .readPadbBaseNote, .readPadbHarm1, .readPadbHarm2, .readPadbHarm3, .readPadbHarm4, .readPadbHarm5, .readPadbHarm6,
      .readPadbHarm7, .readPadbHarm8, .readPadbHarm9, .readPadbHarm10, .readPadbShape, .readPadbHalfCut, .readPadbBandwidth,
      .readPadbDetuneSpread, .readPadbQuality, .readPadbBusy, .readPadbGen] : List Instr).map .ok := rfl

theorem test_decode_write_msob :
    ([
      0x1F000002, 0x1F01232E, 0x1F02235B, 0x1F030005, 0x1F0423B5, 0x1F0523E2, 0x1F060008] : List Word).map decode = ([
      .writeMsobBpA 0x0002, .writeMsobBpB 0x232E, .writeMsobBpC 0x235B, .writeMsobBpD 0x0005, .writeMsobBpE 0x23B5,
      .writeMsobBpF 0x23E2, .writeMsobSymmetry 0x0008] : List Instr).map .ok := rfl

theorem test_decode_read_msob :
    ([
      0x2F000000, 0x2F010000, 0x2F020000, 0x2F030000, 0x2F040000, 0x2F050000, 0x2F060000, 0x2F100000, 0x2F110000] : List Word).map decode = ([
      .readMsobBpA, .readMsobBpB, .readMsobBpC, .readMsobBpD, .readMsobBpE, .readMsobBpF, .readMsobSymmetry, .readMsobBusy,
      .readMsobGen] : List Instr).map .ok := rfl

/-- One word of each format and unit by its fields (30_encoding.md R252 to R256): OPC, UNIT, IDX, VALUE. -/
theorem test_decode_write_fields :
    ([0x1#4 ++ 0x0#4 ++ 0x02#8 ++ 0x001F#16, 0x1#4 ++ 0x1#4 ++ 0x03#8 ++ 0xFFFF#16, 0x1#4 ++ 0x2#4 ++ 0x18#8 ++ 0x0023#16,
      0x1#4 ++ 0x3#4 ++ 0x01#8 ++ 0x0002#16, 0x1#4 ++ 0x4#4 ++ 0x09#8 ++ 0x0032#16, 0x1#4 ++ 0x5#4 ++ 0x1E#8 ++ 0x0003#16,
      0x1#4 ++ 0x6#4 ++ 0x05#8 ++ 0xFFCE#16, 0x1#4 ++ 0x7#4 ++ 0x03#8 ++ 0x0001#16, 0x1#4 ++ 0x8#4 ++ 0x00#8 ++ 0x0064#16,
      0x1#4 ++ 0x9#4 ++ 0x02#8 ++ 0x0000#16, 0x1#4 ++ 0xA#4 ++ 0x04#8 ++ 0x0001#16, 0x1#4 ++ 0xB#4 ++ 0x1C#8 ++ 0x0011#16,
      0x1#4 ++ 0xC#4 ++ (2#4 ++ 1#4) ++ 0x004B#16, 0x1#4 ++ 0xD#4 ++ (1#4 ++ 2#4) ++ 0x0032#16,
      0x1#4 ++ 0xE#4 ++ 0x0F#8 ++ 0x0005#16, 0x1#4 ++ 0xF#4 ++ 0x00#8 ++ 0x0FA0#16] : List Word).map decode
    = ([.writeVoiceStatus 31, .writeOsc1Octave (-1), .writeOsc2FreqLfoSel 35, .writeNoiseColor 2, .writeKsOffDecay 50,
      .writeMsoPwmEnvSel 3, .writePadCents (-50), .writeFilt1Band 1, .writeFilt2Freq 100, .writeDist1Range 0,
      .writeDist2AutoGain 1, .writeAmpPan2LfoSel 17, .writeLfo3Rate 75, .writeAdsr2Sustain 50, .writePadbQuality 5,
      .writeMsobBpA 4000] : List Instr).map .ok := rfl

theorem test_decode_read_fields :
    ([0x2#4 ++ 0x0#4 ++ 0x01#8 ++ 0#16, 0x2#4 ++ 0x5#4 ++ 0x04#8 ++ 0#16, 0x2#4 ++ 0xD#4 ++ (4#4 ++ 8#4) ++ 0#16,
      0x2#4 ++ 0xE#4 ++ 0x11#8 ++ 0#16] : List Word).map decode
    = ([.readVoiceVoiceState, .readMsoSemitone, .readAdsr5State, .readPadbGen] : List Instr).map .ok := rfl

/-- Words with a reserved-zero bit set (30_encoding.md R259; 95_test_vectors.md 2.1) and decoding them in a step. -/
theorem test_decode_refuses :
    ([0x00000001, 0x40000001, 0x50000100, 0x68000000, 0x70010000, 0x80000002, 0x90000010, 0x21060001] : List Word).map decode
    = [.error (.reservedBits 0), .error (.reservedBits 4), .error (.reservedBits 5), .error (.reservedBits 6),
      .error (.reservedBits 7), .error (.reservedBits 8), .error (.reservedBits 9), .error (.reservedBits 2)] := rfl

/-- Unmapped addresses decode to the generic rows (95_test_vectors.md 2.1). -/
theorem test_decode_unmapped :
    ([0x20FF0000, 0x15010001, 0x2C500000] : List Word).map decode
    = ([.readParam 0x0FF, .writeParam 0x501 1, .readParam 0xC50] : List Instr).map .ok := rfl

/-- The assembler on lines of 95_test_vectors.md 2.1 and 30_encoding.md R267. -/
theorem test_assembler :
    assembleText 8 "WRITE ADSR2.SUSTAIN, 50".toList = some [0x1D120032]
    ∧ assembleText 8 "SETFREQ 5512.5".toList = some [0x30541D34] ∧ assembleText 8 "CLRSTATUS".toList = some [0x1002001F]
    ∧ assembleText 8 "READ PADB.GEN".toList = some [0x2E110000] := by decide

/-! ## Single steps -/

/-- `x` lies within 1e-6 of `n / d` (the tolerance of 95_test_vectors.md). -/
def near (x : F32) (n : Int) (d : Nat) : Bool :=
  fFinite x && decide ((fUnits x * d - n * 2 ^ 149).natAbs * 1000000 ≤ 2 ^ 149 * d)

/-- The state an outcome goes on with. -/
def after (r : Host.Outcome State Fault Refusal) : State :=
  match r with
  | .next t => t
  | _ => State.reset

/-- The response of an outcome. -/
def answer (r : Host.Outcome State Fault Refusal) : Option Word := (outOf r).bind PortOut.response

/-- The reset state with some registers set. -/
def withRegs (rs : List (Nat × Int)) : State := rs.foldl (fun s e => setReg s e.1 (BitVec.ofInt 16 e.2)) State.reset

/-- The reset state with an active voice and some registers set. -/
def sounding (rs : List (Nat × Int)) : State :=
  let s := withRegs rs
  { s with voice := { s.voice with inUse := true, active := true } }

/-- The reset state with envelope 1 replaced. -/
def withEnv (x : Adsr) (s : State) : State := { s with voice := { s.voice with adsr := { s.voice.adsr with e1 := x } } }

/-- Registers after reset (95_test_vectors.md 2.13). -/
theorem test_reads_after_reset :
    answer (exec .readVoiceStatus State.reset) = some 0 ∧ answer (exec .readVoiceFreqHz State.reset) = some 0x000001B8
    ∧ answer (exec .readMsobBpA State.reset) = some 0x00000200 ∧ answer (exec .readFilt1Band State.reset) = some 3
    ∧ answer (exec .readPadbGen State.reset) = some 0 := by decide

/-- Clamped writes (95_test_vectors.md 2.2). -/
theorem test_write_clamps :
    let t := fun i => exec i State.reset
    answer (t (.writeOsc1SendF1 150)) = some 0x40000000 ∧ regInt (after (t (.writeOsc1SendF1 150))) 0x106 = 100
    ∧ answer (t (.writeOsc1SendF1 (-5))) = some 0x40000000 ∧ regInt (after (t (.writeOsc1SendF1 (-5)))) 0x106 = 0
    ∧ answer (t (.writeOsc1Octave (-3))) = some 0x40000000 ∧ regInt (after (t (.writeOsc1Octave (-3)))) 0x103 = -2
    ∧ answer (exec .readOsc1Octave (after (t (.writeOsc1Octave (-3))))) = some 0x0000FFFE
    ∧ answer (t (.writeDist1Range 0)) = some 0x40000000 ∧ regInt (after (t (.writeDist1Range 0))) 0x902 = 1 := by decide

theorem test_write_lfo_sel :
    let v := fun x => regAt (after (exec (.writeOsc1FreqLfoSel x) State.reset)) 0x118
    v 0x47 = 0x45 ∧ v 0x75 = 0x45 ∧ v 0x0B = 0x03 ∧ v (-1) = 0 ∧ v 0x23 = 0x23
    ∧ answer (exec (.writeOsc1FreqLfoSel 0x23) State.reset) = some 0
    ∧ answer (exec (.writeOsc1FreqLfoSel 0x0B) State.reset) = some 0x40000000 := by decide

/-- A write to a read-only register, also with an out-of-domain value (95_test_vectors.md 2.2, 2.13). -/
theorem test_write_read_only :
    answer (exec (.writeParam 0x000 999) State.reset) = some 0x80000000
    ∧ (after (exec (.writeParam 0x000 999) State.reset)).voice.status = 0x04
    ∧ (after (exec (.writeParam 0x000 999) State.reset)).voice.voiceId = 0 := by decide

/-- A write to MSOB requests a build (95_test_vectors.md 2.2). -/
theorem test_write_msob :
    let t := exec (.writeMsobBpA 4000) State.reset
    answer t = some 0x40000000 ∧ regInt (after t) 0xF00 = 2047 ∧ (after t).program.msoBusy = true
    ∧ (after t).program.msoSnap.a = 2047 ∧ (after t).program.msoSnap.f = 1537 := by decide

/-- The MSO setter quirk (95_test_vectors.md 2.2). -/
theorem test_mso_quirk :
    let t := exec (.writeMsoPwmEnvSel 3) State.reset
    answer t = some 0 ∧ regInt (after t) 0x51A = 3 ∧ regInt (after t) 0x51E = 0 := by decide

theorem test_status_clear :
    let s := { State.reset with voice := { State.reset.voice with status := 0x1B } }
    (after (exec (.writeVoiceStatus 0x09) s)).voice.status = 0x12
    ∧ (after (exec (.writeVoiceStatus 0x09) s)).voice.regs = [] := by decide

/-- Illegal words and unmapped addresses (95_test_vectors.md 2.1). -/
theorem test_errors :
    answer (execWord 0xA0000000 State.reset) = some 0x80000000 ∧ (after (execWord 0xA0000000 State.reset)).voice.status = 1
    ∧ answer (execWord 0x40000001 State.reset) = some 0x80000000 ∧ (after (execWord 0x40000001 State.reset)).voice.status = 1
    ∧ (after (execWord 0x40000001 State.reset)).voice.active = false
    ∧ answer (execWord 0x2C500000 State.reset) = some 0x80000000 ∧ (after (execWord 0x2C500000 State.reset)).voice.status = 2
    ∧ (after (execWord 0x15010001 State.reset)).voice.status = 2 := by decide

/-- A program halted by its configuration (95_test_vectors.md 2.13). -/
theorem test_halted :
    let s := State.resetWith { Cfg.default with msoLen := 1000 }
    answer (execWord 0x00000000 s) = some 0xC0000000 ∧ answer (execWord 0xA0000000 s) = some 0xC0000000
    ∧ (after (execWord 0xA0000000 s)).voice.status = 0 ∧ audioOf (execWord 0x70000000 s) = some (0, 0) := by decide

theorem test_fallback :
    let s := State.resetWith { Cfg.default with fs := 22050 }
    s.cfg.fs = 44100 ∧ answer (execWord 0x20020000 s) = some 0x00000010 := by decide

/-- SET_FREQUENCY below, inside and above the range. -/
theorem test_set_frequency :
    answer (exec (.setFrequency 19999) State.reset) = some 0x40000000
    ∧ (after (exec (.setFrequency 19999) State.reset)).voice.voiceFreq = 0x41A00000
    ∧ answer (exec (.setFrequency 880000) State.reset) = some 0
    ∧ (after (exec (.setFrequency 880000) State.reset)).voice.voiceFreq = 0x445C0000
    ∧ answer (exec (.setFrequency 10000001) State.reset) = some 0x40000000 := by decide

/-- NOTE_ON (W6) and its pluck: 440 Hz give a loop of 100 (95_test_vectors.md 2.10). -/
theorem test_note_on :
    let t := after (exec .noteOn State.reset)
    t.voice.active = true ∧ t.voice.waits = false ∧ t.voice.adsr.e5.state = .attack ∧ t.voice.ks.len = 100 := by decide +kernel

/-- NOTE_OFF in Attack: ForceRelease with 1/256 of the level. -/
theorem test_note_off :
    let s := withEnv ⟨.attack, 0x3F000000, true, 0, 7⟩ (sounding [])
    let t := after (exec .noteOff s)
    t.voice.waits = true ∧ t.voice.adsr.e1.state = .forceRelease ∧ t.voice.adsr.e1.forceStep = 0x3B000000
    ∧ t.voice.adsr.e2.state = .idle ∧ t.voice.ks.held = false := by decide +kernel

/-- W6: with every generator disabled a waiting voice ends at its tick; a voice that does not wait stays. -/
theorem test_tick_ends :
    let s := { State.reset with voice := { State.reset.voice with inUse := true, active := true, waits := true } }
    outOf (exec .tickControl s) = some ⟨some 1, none, some 0⟩ ∧ outOf (exec .tickControl (sounding [])) = some ⟨some 0, none, none⟩ := by
  decide +kernel

/-- First attack step at the reset registers (95_test_vectors.md 2.4: 0.0362812), and the step that reaches 1. -/
theorem test_adsr_attack :
    let x := adsrTick State.reset uAdsr ⟨.attack, 0, true, 0, 0⟩
    let y := adsrTick State.reset uAdsr ⟨.attack, 0x3F7D70A4, true, 0, 0xFFFFFFFF⟩
    near x.level 362812 10000000 = true ∧ x.state = .attack ∧ x.elapsed = 1
    ∧ y.level = 0x3F800000 ∧ y.state = .decay ∧ y.elapsed = 0xFFFFFFFF := by decide +kernel

/-- ForceRelease reaching 0 goes to Attack when held, to Idle when not. -/
theorem test_adsr_force_release :
    let f := fun h => adsrTick State.reset uAdsr ⟨.forceRelease, 0x38D1B717, h, 0x38D1B717, 0⟩
    (f true).state = .attack ∧ (f false).state = .idle ∧ (f true).level = 0 := by decide +kernel

/-- The first draw of LFO1 in sample and hold comes when the phase wraps (95_test_vectors.md 2.5: -0.30955613). -/
theorem test_lfo_hold :
    let s := withRegs [(0xC00, 4), (0xC01, 100)]
    let l := lfoTick s uLfo { s.voice.lfo.e1 with phase := 0x3F7FFFFF }
    near l.hold (-30955613) 100000000 = true ∧ l.out = 0 ∧ fLt l.phase 0x3F800000 = true := by decide +kernel

/-- The second tick of LFO1, sine at RATE 100 (95_test_vectors.md 2.5: 0.0227942 at phase 3.6281179e-3). -/
theorem test_lfo_sine :
    let s := withRegs [(0xC01, 100)]
    near (lfoTick s uLfo s.voice.lfo.e1).phase 36281179 10000000000 = true
    ∧ near (lfoTick s uLfo (lfoTick s uLfo s.voice.lfo.e1)).out 227942 10000000 = true := by decide +kernel

/-- Waveforms (95_test_vectors.md 2.6, p = 0.5 and 0.125, pw = 0.25, h = 0.3). -/
theorem test_waves :
    let w := fun k p => wave (numOf .reference) k p 0x3E800000 0x3E99999A
    near (w 0 0x3E000000) 7071068 10000000 = true ∧ w 1 0x3F000000 = 0xBF800000 ∧ w 1 0x3E000000 = 0x3F800000
    ∧ w 2 0x3E800000 = 0xBF800000 ∧ near (w 3 0x3F000000) 1 3 = true ∧ w 3 0x3E000000 = 0 ∧ w 4 0 = 0x3E99999A := by
  decide +kernel

/-- Detune and clamp of a source frequency (95_test_vectors.md 2.3: 880 and 660 Hz). -/
theorem test_detune :
    near (srcFreq (withRegs [(0x103, 1)]) uOsc1) 880 1 = true ∧ near (srcFreq (withRegs [(0x105, 50)]) uOsc1) 660 1 = true := by
  decide +kernel

/-- Pulse widths with the PWM quirk (95_test_vectors.md 2.3: 0.5 for a modulation of -0.2, 0.68 for +0.2). -/
theorem test_pulse_width :
    let s := withRegs [(0x11E, 1), (0x11F, 100)]
    near (pulseWidth (withEnv ⟨.attack, 0xBE4CCCCD, true, 0, 0⟩ s) uOsc1) 5 10 = true
    ∧ near (pulseWidth (withEnv ⟨.attack, 0x3E4CCCCD, true, 0, 0⟩ s) uOsc1) 68 100 = true := by decide +kernel

/-- Amplitude modulation (95_test_vectors.md 2.3: de = 1, e = 0.25 gives 0.25) and pan (PAN1 = 0 gives -1). -/
theorem test_amp_pan :
    near (ampMod (withEnv ⟨.decay, 0x3E800000, true, 0, 0⟩ (withRegs [(0x122, 1), (0x123, 100)])) 0x120) 25 100 = true
    ∧ panMod (withRegs [(0xB01, 0)]) 0xB01 0xB18 = 0xBF800000 := by decide +kernel

/-- LFO delay code 1 is present from 2757 elapsed ticks on (95_test_vectors.md 2.3). -/
theorem test_lfo_delay :
    let s := fun n => withEnv ⟨.attack, 0, true, 0, n⟩ (withRegs [(0x118, 0x11)])
    lfoPresent (s 2756) 0x118 = false ∧ lfoPresent (s 2757) 0x118 = true := by decide

/-- Seeds and white noise (95_test_vectors.md 2.7). -/
theorem test_noise :
    prngSeed 0 0 = 0x9E3779B1 ∧ prngSeed 0 8 = 0x8FF34739 ∧ prngSeed 1 0 = 0x81AF14C1
    ∧ (whiteNext 0x9E3779B1).2 = 0x4205A75C ∧ near (whiteNext 0x9E3779B1).1 (-48420250) 100000000 = true
    ∧ (whiteNext 0x4205A75C).2 = 0x2F631B0B := by decide

/-- First pink and brown outputs (95_test_vectors.md 2.7). -/
theorem test_noise_colors :
    let f := fun c => (noiseRender (numOf .reference) .kellet c State.reset.voice.noise).1
    near (f 1) (-87732853) 1000000000 = true ∧ near (f 2) (-33229584) 1000000000 = true := by decide +kernel

/-- Excitations at N = 10 (95_test_vectors.md 2.10): binary, and sawtooth with full damping. -/
theorem test_ks_line :
    (ksLine (numOf .reference) 1 10 0 0 10 0 (prngSeed 0 1) 0 0).1
      = [1, 1, 0, 1, 0, 0, 0, 1, 1, 0].map fun b => if b = 1 then 0xBF800000#32 else 0x3F800000#32 := by decide +kernel

/-- One sample of the string: the mean of two elements times the loop gain (44_karplus.md R540; decay 0, damping 100). -/
theorem test_ks_render :
    let s := sounding [(0x400, 1)]
    let t := { s with voice := { s.voice with ks := { s.voice.ks with buf := [(0, 0x3F800000), (1, 0x3F000000)], len := 10, held := true } } }
    (ksRender t).1 = 0x3F800000 ∧ (ksRender t).2.pos = 1
    ∧ storeGet (fun _ => 0) (ksRender t).2.buf 0 = 0x3F400000 ∧ storeGet (fun _ => 0) (ksRender t).2.buf 1 = 0x3F000000 := by
  decide +kernel

/-- Effective breakpoints and segments (95_test_vectors.md 2.8). -/
theorem test_mso_segments :
    let p := fun (a b c d e f : RegVal) (y : RegVal) => segmentLens 2048 (snapBreakPoints (numOf .reference) 2048 ⟨a, b, c, d, e, f, y⟩)
    p 512 513 1024 1025 1536 1537 50 = [512, 1, 511, 1, 511, 1, 511]
    ∧ p 512 513 1024 1025 1536 1537 0 = [51, 0, 51, 2, 971, 2, 971]
    ∧ p 512 513 1024 1025 1536 1537 100 = [972, 2, 971, 0, 51, 0, 52]
    ∧ p 1500 200 1000 100 2047 0 50 = [1500, 0, 0, 0, 547, 0, 1] := by decide +kernel

/-- Elements of the base table and the PWM warp (95_test_vectors.md 2.8). -/
theorem test_mso_table :
    let b := msoBaseElem (numOf .reference) 2048
    b 0 = 0 ∧ near (b 256) 7071068 10000000 = true ∧ b 512 = 0x3F800000 ∧ near (b 768) 7081928 10000000 = true
    ∧ near (b 1280) (-7060191) 10000000 = true
    ∧ near (msoWarp (numOf .reference) 0x3F000000 0x3F39999A) 3448276 10000000 = true := by decide +kernel

/-- Base frequencies of notes 69 and 0 (95_test_vectors.md 2.9). -/
theorem test_pad_note :
    noteFreq (numOf .reference) 69 = 0x43DC0000 ∧ near (noteFreq (numOf .reference) 0) 81757989 10000000 = true := by decide +kernel

/-- The builder's phases (95_test_vectors.md 2.7) and the silent banks before a build (46_pad.md R616). -/
theorem test_pad_phase :
    prngNext 1 = 0x3C88596C ∧ near (padPhase (numOf .reference) 0x3C88596C) 1485694 1000000 = true
    ∧ (renderPad false (sounding [(0x600, 1)])).map (fun r => (r.1, r.2.1)) = some (0, 0) := by decide +kernel

/-- The requests of the Table Builder (95_test_vectors.md 2.13). -/
theorem test_build_pad :
    let t := after (exec .buildPad State.reset)
    answer (exec .readPadbBusy t) = some 1 ∧ answer (exec .readPadbBusy (after (exec .buildPad t))) = some 3
    ∧ t.program.padSnap.baseNote = 60 ∧ (after (exec .buildPad t)).program.builds = 1 := by decide

/-- An impulse through FILT1 at FREQ 50 (95_test_vectors.md 2.11): F = 0.0546193, the high-pass tap 1, the band-pass tap F. -/
theorem test_filter :
    let s := withRegs [(0x700, 50), (0x703, 1)]
    near (filtCoeff s uFilt1 0) 546193 10000000 = true ∧ (svfStep s uFilt1 0 0x3F800000 ⟨0, 0⟩).1 = 0x3F800000
    ∧ near (svfStep s uFilt1 0 0x3F800000 ⟨0, 0⟩).2.bp 546193 10000000 = true := by decide +kernel

/-- Distortion with and without auto gain, at k = 4 too (95_test_vectors.md 2.11). -/
theorem test_distortion :
    let f := fun (d r b g : Int) => dist (withRegs [(0x901, d), (0x902, r), (0x903, b), (0x904, g)]) uDist1
    near (f 100 10 100 1 0x3F000000) 21858352 100000000 = true ∧ near (f 40 10 100 1 0x3F000000) 70483276 100000000 = true
    ∧ near (f 100 100 50 0 0xBE800000) (-61227439) 100000000 = true := by decide +kernel

/-- Amplifier (95_test_vectors.md 2.12). -/
theorem test_amplifier :
    let s := withRegs [(0xB00, 100), (0xB02, 50)]
    let t := { s with voice := { s.voice with lat := { s.voice.lat with pan1 := 0x3F000000, pan2 := 0xBF000000 } } }
    near (ampOut t 0x3F000000 0xBF000000).1 (-25) 1000 = true ∧ near (ampOut t 0x3F000000 0xBF000000).2 125 1000 = true := by
  decide +kernel

/-- The second sample of program P1: 0.01252966 on both sides. -/
theorem test_render :
    let s := sounding [(0x100, 1), (0x106, 100), (0xB00, 100)]
    let t := { s with voice := { s.voice with osc1 := { s.voice.osc1 with layers := { s.voice.osc1.layers with e0 := ⟨0x3C2377EE, 0⟩ } } } }
    (audioOf (exec .renderSample t)).map (fun p => (near p.1 1252966 100000000, near p.2 1252966 100000000))
      = some (true, true) := by decide +kernel

/-- A sample whose filter state is infinite goes out as silence, with RT_FAULT and both filters cleared. -/
theorem test_render_fault :
    let s := sounding [(0x703, 0), (0xB00, 100)]
    let t := after (exec .renderSample { s with voice := { s.voice with filt1 := ⟨0x7F800000, 0⟩, filt2 := ⟨0x3F800000, 0⟩ } })
    t.out.audio = some (0, 0) ∧ t.voice.status = 0x08 ∧ t.voice.filt1 = ⟨0, 0⟩ ∧ t.voice.filt2 = ⟨0, 0⟩ := by decide +kernel

theorem test_clear_filters :
    let s := State.reset
    (after (exec .clearFilters { s with voice := { s.voice with filt1 := ⟨1, 2⟩, filt2 := ⟨3, 4⟩ } })).voice.filt2 = ⟨0, 0⟩ := by
  decide

/-- Least significant byte first on the link (20_memory.md R202). -/
theorem test_link :
    linkBytes 0x1C21004B = [0x4B, 0x00, 0x21, 0x1C] ∧ linkReceive [0xC0, 0xB6, 0x06, 0x30, 0x00] = ([0x3006B6C0], [0x00]) := by
  decide

/-- The interface of the checks: the word of a row is decoded and run by the very next step. -/
theorem test_table_word :
    decodeTableWord 32 0x11000001 = some (.writeOsc1Enable 1) ∧ decodeTableWord 32 0x40000001 = none
    ∧ regAt (after (step (State.reset.withFetchWord 32 0x11000001))) 0x100 = 1 := by decide

/-! ## Witnesses: for every statement with hypotheses, inputs that meet them -/

/-- A program of two cores. -/
def twoCores : State := State.resetWith { Cfg.default with voiceIds := [1, 2] }

/-- A program halted by its configuration. -/
def haltedCore : State := State.resetWith { Cfg.default with msoLen := 1000 }

/-- A state in which a PAD build runs. -/
def padBuilding (wait : Nat) (pending : Bool) : State :=
  { State.reset with program := { State.reset.program with padBusy := true, padPending := pending, padWait := wait } }

/-- A state in which an MSO build runs. -/
def msoBuilding (wait : Nat) (pending : Bool) : State :=
  { State.reset with program := { State.reset.program with msoBusy := true, msoPending := pending, msoWait := wait } }

theorem test_witness_DecodeOfEncode :
    Instr.wf (.writeOsc1Enable 1) = true ∧ Instr.wf (.writeParam 0x000 0xFFFF) = true ∧ Instr.wf (.readParam 0xFFF) = true
    ∧ Instr.wf (.illegalF 0) = true := by decide

theorem test_witness_EncodeOfDecode : decode 0x10FF0001 = .ok (.writeParam 0x0FF 1) ∧ decode 0x00000000 = .ok .nop := ⟨rfl, rfl⟩

theorem test_witness_IllegalWordsAreTurnedAway :
    let illegal := fun (w : Word) =>
      let opc := (w.extractLsb' 28 4).toNat
      decide (10 ≤ opc ∨ (opc ∈ [0, 4, 5, 6, 7, 8, 9] ∧ w.extractLsb' 0 28 ≠ 0) ∨ (opc = 2 ∧ w.extractLsb' 0 16 ≠ 0))
    State.reset.voice.halted = false
    ∧ ([0xA0000000, 0xFFFFFFFF, 0x00000001, 0x0FFFFFFF, 0x40000001, 0x98000000, 0x20000001, 0x2FFF8000] : List Word).all illegal
      = true
    ∧ ([0x00000000, 0x10000000, 0x1FFFFFFF, 0x2FFF0000, 0x3FFFFFFF, 0x90000000] : List Word).any illegal = false := by
  decide +kernel

theorem test_witness_ReservedOpcodesComplete :
    (Instr.illegalA 0).command = .illegal 0 0 ∧ (Instr.illegalF 0xFFFFFFF).command = .illegal 5 0xFFFFFFF
    ∧ State.reset.voice.halted = false := ⟨rfl, rfl, rfl⟩

theorem test_witness_StepRunsTheDecodedInstruction :
    let s := hostWrites State.reset 0 0x40000000
    padDue s.program = false ∧ msoDue s.program = false ∧ s.port = [(s.voice.core, 0x40000000)] ∧ decode 0x40000000 = .ok .noteOn :=
  ⟨rfl, rfl, rfl, rfl⟩

theorem test_witness_StepRunsOnTheAddressedCore :
    let s := hostWrites twoCores 1 0x40000000
    padDue s.program = false ∧ msoDue s.program = false ∧ s.port = [(1, 0x40000000)] ∧ decode 0x40000000 = .ok .noteOn
    ∧ s.voice.core ≠ 1 ∧ (findVoice 1 s.others).map (fun v => v.voiceId) = some 2 := by decide

theorem test_witness_OtherCoresAreUntouched : exec .nop twoCores = .next (respond twoCores .ok 0) := rfl

theorem test_witness_RowsRunTheirCommand :
    (Instr.writeAmpPan2EnvDepth 1).command = .write 0xB1F 1 ∧ Instr.readMsobGen.command = .read 0xF11 := ⟨rfl, rfl⟩

theorem test_witness_HaltedCoreDoesNothing :
    haltedCore.voice.halted = true ∧ twoCores.others.length = 1 ∧ Instr.renderSample ≠ .nop := by decide

theorem test_witness_NopAnswersOk :
    State.reset.voice.halted = false ∧ (0x0FFFFFFF#32).extractLsb' 28 4 = 0 ∧ (0x00000001#32).extractLsb' 28 4 = 0 := by decide

theorem test_witness_WriteStoresTheClampedValue :
    State.reset.voice.halted = false ∧ (Instr.writeOsc1Octave (-3)).command = .write 0x103 (-3)
    ∧ regInfo State.reset.cfg.msoLen 0x103 = some ⟨.range (-2) 2, 0, .rw, .tick⟩ ∧ unitOf 0x103 ≠ 0xF
    ∧ (Instr.writeMsoPwmEnvDepth 7).command = .write 0x51F 7 ∧ (regInfo State.reset.cfg.msoLen 0x51F).isSome = true
    ∧ quirkTarget State.reset.cfg.quirkMsoSetters 0x51F = 0x51D := by decide

theorem test_witness_MsobWriteRequestsABuild :
    State.reset.voice.halted = false ∧ (msoBuilding 3 false).voice.halted = false ∧ (Instr.writeMsobBpF 1).command = .write 0xF05 1
    ∧ regInfo State.reset.cfg.msoLen 0xF05 = some ⟨.tablePos, 1537, .rw, .builder⟩ ∧ unitOf 0xF05 = 0xF
    ∧ State.reset.program.msoBusy = false ∧ (msoBuilding 3 false).program.msoBusy = true := by decide

theorem test_witness_StatusWriteClearsBits :
    State.reset.voice.halted = false ∧ (Instr.writeVoiceStatus 31).command = .write 0x002 31 := ⟨rfl, rfl⟩

theorem test_witness_BadAddressesAreTurnedAway :
    State.reset.voice.halted = false ∧ regInfo State.reset.cfg.msoLen 0xFFF = none ∧ (Instr.readParam 0xFFF).command = .read 0xFFF
    ∧ (Instr.writeParam 0x004 1).command = .write 0x004 1 ∧ regInfo State.reset.cfg.msoLen 0x004 = none
    ∧ (Instr.writeParam 0xF11 1).command = .write 0xF11 1
    ∧ regInfo State.reset.cfg.msoLen 0xF11 = some ⟨.range 0 65535, 0, .ro, .none⟩ := by decide

theorem test_witness_ReadAnswersTheRegister :
    State.reset.voice.halted = false ∧ Instr.readFilt1Band.command = .read 0x703 ∧ viewAddr 0x703 = false
    ∧ regInfo State.reset.cfg.msoLen 0x703 = some ⟨.range 0 3, 3, .rw, .live⟩
    ∧ Instr.readMsobGen.command = .read 0xF11 ∧ viewAddr 0xF11 = true ∧ (regInfo State.reset.cfg.msoLen 0xF11).isSome = true := by
  decide

theorem test_witness_ViewsShowTheState : State.reset.voice.halted = false ∧ (sounding []).voice.halted = false := by decide

theorem test_witness_ReadAfterWriteGivesTheClampedValue :
    State.reset.voice.halted = false ∧ (Instr.writeMsobBpA 5000).command = .write 0xF00 5000 ∧ Instr.readMsobBpA.command = .read 0xF00
    ∧ regInfo State.reset.cfg.msoLen 0xF00 = some ⟨.tablePos, 512, .rw, .builder⟩
    ∧ quirkTarget State.reset.cfg.quirkMsoSetters 0xF00 = 0xF00 := by decide

theorem test_witness_StoredValuesLieInTheDomain :
    msoLens.contains 64 = true ∧ msoLens.contains 32768 = true ∧ regInfo 32768 0xF00 = some ⟨.tablePos, 8192, .rw, .builder⟩
    ∧ inDomain 32768 .tablePos 32767 = true ∧ regInfo 64 0x118 = some ⟨.lfoSel, 0, .rw, .tick⟩
    ∧ inDomain 64 .lfoSel 0x45 = true := by decide

theorem test_witness_LfoSelectorClamp : (0x8000#16).msb = true ∧ (0x7FFF#16).msb = false ∧ (0x0000#16).msb = false := by decide

theorem test_witness_MsoSetterQuirk :
    State.reset.voice.halted = false ∧ State.reset.cfg.quirkMsoSetters = true
    ∧ (State.resetWith { Cfg.default with quirkMsoSetters := false }).voice.halted = false
    ∧ (State.resetWith { Cfg.default with quirkMsoSetters := false }).cfg.quirkMsoSetters = false
    ∧ (Instr.writeMsoPwmEnvSel 3).command = .write 0x51E 3
    ∧ regInfo 2048 0x51E = some ⟨.range 0 5, 0, .rw, .tick⟩ := by decide

theorem test_witness_SetFrequencyClamps :
    State.reset.voice.halted = false ∧ cfgLegal State.reset.cfg = true
    ∧ (let lo := State.reset.cfg.oscMin
       let hi := State.reset.cfg.oscMax
       (19999 : Int) * lo.den < lo.num * 1000 ∧ hi.num * 1000 < (10000001 : Int) * hi.den
       ∧ lo.num * 1000 ≤ (20000 : Int) * lo.den ∧ (20000 : Int) * hi.den ≤ hi.num * 1000
       ∧ lo.num * 1000 ≤ (10000000 : Int) * lo.den ∧ (10000000 : Int) * hi.den ≤ hi.num * 1000) := by decide

/-- Envelopes in every state. -/
def envelopes (first : Bool) : State :=
  let e := fun x => (⟨x, 0x3F000000, true, 0x3B000000, 1⟩ : Adsr)
  { State.reset with voice := { State.reset.voice with
      adsr := if first then ⟨.reset, e .attack, e .decay, e .sustain, e .release⟩
        else ⟨e .offRelease, e .forceRelease, .reset, .reset, .reset⟩ } }

/-- NOTE_ON, NOTE_OFF and a tick with envelopes in every state. -/
theorem test_witness_NoteOnStartsTheEnvelopes :
    (envelopes true).voice.halted = false ∧ (envelopes false).voice.halted = false ∧ (envelopes true).voice.adsr.e1.state = .idle
    ∧ (envelopes false).voice.adsr.e2.state = .forceRelease ∧ (envelopes true).voice.adsr.e5.state = .release := ⟨rfl, rfl, rfl, rfl, rfl⟩

/-- Two excitation codes without and with variation; the line of R532 code 6 at both halves. -/
theorem test_witness_NoteOnPlucksTheString :
    let s := withRegs [(0x401, 6)]
    let t := withRegs [(0x401, 2), (0x402, 100), (0x404, 100)]
    s.voice.halted = false ∧ ksLength s = 100 ∧ regNat s 0x401 = 6 ∧ regNat t 0x401 = 2 ∧ t.voice.halted = false
    ∧ fLt (fOfInt 0) (regPct s 0x402) = false ∧ fLt (fOfInt 0) (regPct t 0x402) = true
    ∧ storeGet (fun _ => 0) (noteOn s).voice.ks.buf 49 = 0x3F800000 ∧ storeGet (fun _ => 0) (noteOn s).voice.ks.buf 50 = 0xBF800000 := by
  decide +kernel

theorem test_witness_NoteOffReleasesTheEnvelopes :
    (envelopes true).voice.halted = false ∧ (envelopes true).voice.adsr.e2.state = .attack
    ∧ (envelopes true).voice.adsr.e3.state = .decay ∧ (envelopes true).voice.adsr.e4.state = .sustain
    ∧ (envelopes false).voice.adsr.e1.state = .offRelease := ⟨rfl, rfl, rfl, rfl, rfl⟩

theorem test_witness_TickRecomputesTheModulation : (envelopes true).voice.halted = false := rfl

theorem test_witness_TickEndsAQuietVoice :
    let s := { State.reset with voice := { State.reset.voice with inUse := true, active := true, waits := true } }
    s.voice.halted = false ∧ (outOf (exec .tickControl s)).isSome = true ∧ s.voice.waits = true ∧ s.voice.active = true
    ∧ regAt s 0x100 ≠ 1 ∧ regAt s 0x200 ≠ 1 ∧ regAt s 0x300 ≠ 1 ∧ regAt s 0x400 ≠ 1 ∧ regAt s 0x500 ≠ 1 ∧ regAt s 0x600 ≠ 1
    ∧ (sounding []).voice.waits = false ∧ (outOf (exec .tickControl (sounding []))).isSome = true := by decide +kernel

theorem test_witness_EnvelopeTickRules :
    ∀ b : Bool, (envelopes b).voice.halted = false ∧ exec .tickControl (envelopes b) = .next (tickControl (envelopes b)) :=
  fun b => by cases b <;> exact ⟨rfl, rfl⟩

theorem test_witness_LfoTickRule :
    let s := withRegs [(0xC40, 4)]
    let t := { s with voice := { s.voice with lfo := { s.voice.lfo with e5 := { s.voice.lfo.e5 with phase := 0x3F7FFFFF } } } }
    t.voice.halted = false ∧ (outOf (exec .tickControl t)).isSome = true ∧ regNat t 0xC40 = 4 ∧ regNat t 0xC00 = 0
    ∧ fLe (fOfInt 1) (t.num.add t.voice.lfo.e5.phase (t.num.mul (lfoFreq t 0xC40) (tickDelta t))) = true
    ∧ fLe (fOfInt 1) (t.num.add t.voice.lfo.e1.phase (t.num.mul (lfoFreq t 0xC00) (tickDelta t))) = false := by decide +kernel

theorem test_witness_PulseWidthQuirk :
    exec .tickControl State.reset = .next (tickControl State.reset) ∧ State.reset.cfg.quirkPwmGate = true := ⟨rfl, rfl⟩

theorem test_witness_InactiveVoiceIsSilent : State.reset.voice.halted = false ∧ State.reset.voice.active = false := ⟨rfl, rfl⟩

/-- A state of a run other than the reset state that meets the invariant. -/
theorem test_witness_StateInv : StateInv (hostWrites (sounding [(0x100, 1), (0xF00, 600)]) 0 0x70000000) :=
  ⟨by decide, by decide, by decide, by decide, by decide, by decide⟩

theorem test_witness_RenderCompletes :
    let s := hostWrites (sounding [(0x100, 1), (0xF00, 600)]) 0 0x70000000
    s.voice.halted = false ∧ s.voice.active = true ∧ (0 : Nat) ≠ s.voice.ks.pos + 1 ∧ (outOf (step s)).isSome = true := by decide +kernel

/-- Each colour of the noise generator, and the string held in direct mode and let go in magic mode. -/
theorem test_witness_RenderCompletes_generators :
    let runs := fun (s : State) => (generateAll s).isSome
    let direct := withRegs [(0x400, 1), (0x405, 0)]
    let magic := withRegs [(0x400, 1), (0x405, 1)]
    (∀ c : Fin 3, runs (withRegs [(0x300, 1), (0x301, c.val)]) = true ∧ regAt (withRegs [(0x300, 1), (0x301, c.val)]) 0x300 = 1
      ∧ regAt (withRegs [(0x300, 1), (0x301, c.val)]) 0x301 = BitVec.ofNat 16 c.val)
    ∧ runs direct = true ∧ regAt direct 0x400 = 1 ∧ regAt direct 0x405 = 0 ∧ runs magic = true ∧ regAt magic 0x405 = 1 := by
  decide +kernel

theorem test_witness_NonFiniteSampleBecomesSilence :
    let s := sounding [(0x703, 0), (0xB00, 100)]
    let t := { s with voice := { s.voice with filt1 := ⟨0x7F800000, 0⟩ } }
    let fin := fun (x : State) => (generateAll x).map fun r => (fFinite (mixOut r.2 r.1).1.1, fFinite (mixOut r.2 r.1).1.2)
    s.voice.halted = false ∧ s.voice.active = true ∧ fin s = some (true, true) ∧ fin t = some (false, false) := by decide +kernel

theorem test_witness_DisabledGeneratorsRest :
    (generateAll State.reset).isSome = true ∧ regAt State.reset 0x100 ≠ 1 ∧ regAt State.reset 0x200 ≠ 1 ∧ regAt State.reset 0x300 ≠ 1
    ∧ regAt State.reset 0x400 ≠ 1 ∧ regAt State.reset 0x500 ≠ 1 ∧ regAt State.reset 0x600 ≠ 1 := by decide +kernel

theorem test_witness_HardSyncRestartsOsc2 :
    let s := sounding [(0x100, 1), (0x200, 1), (0x208, 1)]
    let t := { s with voice := { s.voice with
      osc1 := { s.voice.osc1 with layers := { s.voice.osc1.layers with e0 := ⟨0x3F7FFFFF, 0⟩ } } } }
    let wraps := fun (x : State) => (generateAll x).map fun r => r.2.voice.osc1.wrapped
    regAt s 0x200 = 1 ∧ regAt s 0x208 = 1 ∧ regAt t 0x208 = 1 ∧ wraps s = some false ∧ wraps t = some true := by decide +kernel

theorem test_witness_UnisonOffRestsTheLayers :
    let s := sounding [(0x100, 1), (0x200, 1), (0x208, 1)]
    (generateAll s).isSome = true ∧ regAt s 0x100 = 1 ∧ regAt s 0x109 = 0 ∧ regAt s 0x209 = 0 ∧ regAt s 0x200 = 1 := by decide +kernel

theorem test_witness_ClearFiltersClears : State.reset.voice.halted = false := rfl

theorem test_witness_BuildPadRequestsABuild :
    State.reset.voice.halted = false ∧ State.reset.program.padBusy = false ∧ (padBuilding 0 false).voice.halted = false
    ∧ (padBuilding 0 false).program.padBusy = true := ⟨rfl, rfl, rfl, rfl⟩

/-- Every instruction class from a voice whose flags agree. -/
theorem test_witness_VoiceLifeCycle :
    let s := { State.reset with voice := { State.reset.voice with inUse := true, active := true, waits := true } }
    s.voice.halted = false ∧ s.voice.inUse = s.voice.active ∧ exec .noteOn s = .next (noteOn s) ∧ exec .noteOff s = .next (noteOff s)
    ∧ exec .tickControl s = .next (tickControl s) ∧ exec .nop s = .next (respond s .ok 0) := ⟨rfl, rfl, rfl, rfl, rfl, rfl⟩

theorem test_witness_OneVoiceEndPerNote :
    let s := { State.reset with voice := { State.reset.voice with inUse := true, active := true, waits := true } }
    (outOf (exec .tickControl s)).bind PortOut.event = some 0 ∧ State.reset.voice.active = false
    ∧ exec .nop State.reset = .next (respond State.reset .ok 0) ∧ Instr.nop ≠ .noteOn := by
  refine ⟨by decide +kernel, rfl, rfl, by decide⟩

theorem test_witness_InstructionsLeaveTheTables : exec .buildPad State.reset = .next (respond (padRequest State.reset) .ok 0) := rfl

theorem test_witness_OnlyWritesChangeRegisters :
    exec .noteOn State.reset = .next (noteOn State.reset) ∧ ∀ a v, Instr.noteOn.command ≠ .write a v := ⟨rfl, fun _ _ => nofun⟩

theorem test_witness_StatusBitsAreSticky :
    let s := { State.reset with voice := { State.reset.voice with status := 0x11 } }
    exec .nop s = .next (respond s .ok 0) ∧ s.voice.status.getLsbD 0 = true ∧ s.voice.status.getLsbD 4 = true := by
  refine ⟨rfl, by decide, by decide⟩

/-- A tick, note-on, builder and effect-free register, a read-only one among them. -/
theorem test_witness_TimedRegistersWait :
    ((Instr.writeOsc1Octave 1).command = .write 0x103 1 ∧ regInfo 2048 0x103 = some ⟨.range (-2) 2, 0, .rw, .tick⟩
      ∧ exec (.writeOsc1Octave 1) State.reset = .next (writeParam State.reset 0x103 1))
    ∧ ((Instr.writeKsExcitation 1).command = .write 0x401 1 ∧ regInfo 2048 0x401 = some ⟨.range 0 6, 0, .rw, .noteOn⟩)
    ∧ ((Instr.writeMsobBpA 1).command = .write 0xF00 1 ∧ regInfo 2048 0xF00 = some ⟨.tablePos, 512, .rw, .builder⟩)
    ∧ ((Instr.writeVoiceStatus 1).command = .write 0x002 1 ∧ regInfo 2048 0x002 = some ⟨.range 0 31, 0, .w1c, .none⟩)
    ∧ ((Instr.writeParam 0x000 1).command = .write 0x000 1 ∧ regInfo 2048 0x000 = some ⟨.range 0 255, 0, .ro, .none⟩) :=
  ⟨⟨rfl, rfl, rfl⟩, ⟨rfl, rfl⟩, ⟨rfl, rfl⟩, ⟨rfl, rfl⟩, rfl, rfl⟩

theorem test_witness_SamplesReadTheSelectedBanks :
    let s := State.reset
    let p := { s.program with pad1 := ⟨65536, 0, [(0, 1)]⟩, msom1 := [(0, 1)], padBusy := true, regs := [(0xE00, 1)] }
    p.padSel = s.program.padSel ∧ p.msoSel = s.program.msoSel ∧ padBank p p.padSel = padBank s.program s.program.padSel
    ∧ msoBank p p.msoSel = msoBank s.program s.program.msoSel ∧ p ≠ s.program := by decide

/-- Both readers, the PAD reader with and without a change of length. -/
theorem test_witness_SamplesReadTheSelectedBanks_readers :
    let s := withRegs [(0x500, 1), (0x600, 1)]
    let t := { s with voice := { s.voice with padLenSeen := 65536 } }
    (generateAll s).isSome = true ∧ (generateAll t).isSome = true ∧ regAt s 0x500 = 1 ∧ regAt s 0x600 = 1 ∧ regAt t 0x600 = 1
    ∧ (padBank s.program s.program.padSel).len = s.voice.padLenSeen ∧ (padBank t.program t.program.padSel).len ≠ t.voice.padLenSeen := by
  decide +kernel

theorem test_witness_PadSwapPublishesTheBuild :
    padDue (padBuilding 0 false).program = true ∧ padDue (padBuilding 0 true).program = true
    ∧ (padBuilding 0 true).program.padPending = true ∧ (padBuilding 0 false).program.padPending = false
    ∧ 32767 < 2 ^ (15 + (padBuilding 0 false).program.padSnap.quality.toNat) := by decide

theorem test_witness_MsoSwapPublishesTheBuild :
    padDue (msoBuilding 0 false).program = false ∧ msoDue (msoBuilding 0 false).program = true
    ∧ msoDue (msoBuilding 0 true).program = true ∧ (msoBuilding 0 true).program.msoPending = true
    ∧ (msoBuilding 0 false).program.msoPending = false
    ∧ 2047 < (msoBuilding 0 false).cfg.msoLen := by decide

theorem test_witness_PadBuildComesNearer :
    let s := hostWrites (padBuilding 1 false) 0 0x00000000
    s.program.padBusy = true ∧ 0 < s.program.padWait ∧ msoDue s.program = false ∧ s.port = [(0, 0x00000000)]
    ∧ (focus s 0).isSome = true ∧ (outOf (step s)).isSome = true := by decide

theorem test_witness_PadBuildComesNearer_mso :
    let s := hostWrites (msoBuilding 1 false) 0 0x00000000
    s.program.msoBusy = true ∧ 0 < s.program.msoWait ∧ padDue s.program = false ∧ s.port = [(0, 0x00000000)]
    ∧ (focus s 0).isSome = true ∧ (outOf (step s)).isSome = true := by decide

theorem test_witness_MsoSegmentsFillTheTable : (0 : Nat) < 64 := by decide

theorem test_witness_EveryStepKeepsTheInvariant :
    (outOf (step (hostWrites (sounding [(0x100, 1), (0xF00, 600)]) 0 0x70000000))).isSome = true := by decide +kernel

theorem test_witness_ResetRegisters :
    regInfo (State.resetWith Cfg.default).cfg.msoLen 0x200 = some ⟨.range 0 1, 0, .rw, .live⟩ := by decide

theorem test_witness_ResetDatapath : twoCores.others.length = 1 ∧ (1 : Nat) ≤ 1 ∧ (5 : Nat) ≤ 5 := by decide

theorem test_witness_RatesFallBack : cfgLegal (State.resetWith { Cfg.default with fs := 1, sub := 257 }).cfg = true := by decide

theorem test_witness_SeedsAreDistinct : (0 : Nat) < 2 ^ 28 ∧ 2 ^ 28 - 1 < 2 ^ 28 ∧ (8 : Nat) ≤ 8 := by decide

end Sys2Proof.Tests
end

section
/-! PROOFS. What power-on reset builds, part by part, and that it meets the invariant (00_scope.md R8, 70_reset_and_hazards.md R751). -/

namespace Sys2Proof.Machine

/-- The fallback of 00_scope.md R8 makes `FS` and `SUB` legal, whatever was requested. -/
theorem cfgRates_cfgFallback (req : Cfg) : cfgRates (cfgFallback req) = true := by
  have hfs : (cfgFallback req).fs = 44100 ∨ (cfgFallback req).fs = 48000 := by
    unfold cfgFallback
    by_cases h : req.fs = 44100 ∨ req.fs = 48000 <;> simp [h]
  have hsub : 1 ≤ (cfgFallback req).sub ∧ (cfgFallback req).sub ≤ 256 := by
    unfold cfgFallback
    by_cases h : 1 ≤ req.sub ∧ req.sub ≤ 256 <;> simp [h]
  simp [cfgRates, hfs, hsub]

/-- A voice after reset is good: it lists no register and no delay-line element, its string has the shortest length, its flags are
down and its envelopes are Idle at level 0. -/
theorem voiceOk_reset (c : Cfg) (fell : Bool) (core : Nat) (vid : BitVec 8) :
    voiceOk c (Voice.reset c fell core vid) = true :=
  voiceOk_iff.mpr
    { regs := rfl, regsIn := rfl, buf := rfl
      len2 := Nat.le_refl 2, len := (by decide : 2 ≤ ksCap), pos := Nat.two_pos
      pad := rfl, flags := rfl
      e1 := rfl, e2 := rfl, e3 := rfl, e4 := rfl, e5 := rfl
      halted := rfl }

/-- The shared state after reset is good: both PAD banks have the smallest length, nothing is listed and no build runs. -/
theorem programOk_reset (c : Cfg) : programOk c (Program.reset c) = true :=
  programOk_iff.mpr
    { regs := rfl, regsIn := rfl, pad0 := rfl, pad1 := rfl, m0 := rfl, m1 := rfl, base := rfl
      pp := rfl, mp := rfl, pl := rfl, ml := rfl, q := rfl }

/-- A core that reset numbers from `n` on is a voice after reset, with a number not below `n`. -/
theorem exists_eq_reset_of_mem_resetVoices {c : Cfg} {fell : Bool} {ids : List (BitVec 8)} {n : Nat} {v : Voice}
    (hv : v ∈ resetVoices c fell n ids) : ∃ k vid, n ≤ k ∧ v = Voice.reset c fell k vid := by
  induction ids generalizing n with
  | nil => cases hv
  | cons vid ids ih =>
    rcases List.mem_cons.mp hv with rfl | hv
    · exact ⟨n, vid, Nat.le_refl n, rfl⟩
    · obtain ⟨k, vid', hk, rfl⟩ := ih hv
      exact ⟨k, vid', Nat.le_of_succ_le hk, rfl⟩

/-- The cores that reset numbers from `n` on stand by rising number. -/
theorem coresRise_resetVoices (c : Cfg) (fell : Bool) (ids : List (BitVec 8)) {lo n : Nat} (h : lo ≤ n) :
    coresRise lo (resetVoices c fell n ids) = true := by
  induction ids generalizing lo n with
  | nil => rfl
  | cons vid ids ih =>
    simp only [resetVoices, coresRise, Bool.and_eq_true, decide_eq_true_eq]
    exact ⟨h, ih (Nat.le_refl (n + 1))⟩

/-- After reset the other cores are good. -/
theorem others_resetWith_ok (req : Cfg) :
    (State.resetWith req).others.all (voiceOk (State.resetWith req).cfg) = true := by
  refine List.all_eq_true.mpr fun v hv => ?_
  obtain ⟨k, vid, -, rfl⟩ := exists_eq_reset_of_mem_resetVoices hv
  exact voiceOk_reset _ _ k vid

/-- After reset the other cores stand in order, and none of them has the number 0 of the current one. -/
theorem coresOk_resetWith (req : Cfg) : coresOk (State.resetWith req) = true := by
  refine Bool.and_eq_true_iff.mpr ⟨coresRise_resetVoices _ _ _ (Nat.zero_le 1), List.all_eq_true.mpr fun v hv => ?_⟩
  obtain ⟨k, vid, hk, rfl⟩ := exists_eq_reset_of_mem_resetVoices hv
  have hne : k ≠ 0 := Nat.one_le_iff_ne_zero.mp hk
  exact decide_eq_true hne

/-- Settles O53, from the parts: the memory, the rates, each core and the shared state are good after reset. -/
theorem everyResetMeetsTheInvariant : Obligations.EveryResetMeetsTheInvariant := by
  intro req
  exact
    { mem := memory_wf_resetWith req
      rates := cfgRates_cfgFallback req
      voice := voiceOk_reset _ _ _ _
      others := others_resetWith_ok req
      program := programOk_reset _
      cores := coresOk_resetWith req }

end Sys2Proof.Machine
end

section
/-! PROOFS. Every instruction runs the command it stands for, and a halted core runs none (40_voice.md R300); what the commands that
are no WRITE_PARAM leave in the parameter registers. -/

namespace Sys2Proof.Machine

/-- What a command does on a core that is not halted (40_voice.md R301 to R311). -/
def runCommand (c : Command) (s : State) : Host.Outcome State Fault Refusal :=
  match c with
  | .nop => .next (respond s .ok 0)
  | .write a v => .next (writeParam s a v)
  | .read a => .next (readParam s a)
  | .setFrequency mhz => .next (setFrequency s mhz)
  | .noteOn => .next (noteOn s)
  | .noteOff => .next (noteOff s)
  | .tickControl => .next (tickControl s)
  | .renderSample => if s.voice.active then renderActive s else .next (deliver s .ok 0 (some (0, 0)) none)
  | .clearFilters =>
    .next (respond { s with voice := { s.voice with filt1 := filterClear, filt2 := filterClear } } .ok 0)
  | .buildPad => .next (respond (padRequest s) .ok 0)
  | .illegal _ _ => .next (rejectCommand s .cmdReserved)

/-- What a halted core has on its audio port: silence for a RENDER_SAMPLE, else nothing (40_voice.md R300). -/
def haltedAudio (c : Command) : Option (F32 × F32) :=
  match c with
  | .renderSample => some (0, 0)
  | _ => none

/-- An instruction is its command behind the look at `st.cfg_halted` (40_voice.md R300): one arm of `exec` per instruction. -/
theorem exec_eq_runCommand (i : Instr) (s : State) :
    exec i s = if s.voice.halted then .next (deliver s .errConfig 0 (haltedAudio i.command) none)
      else runCommand i.command s := by
  cases i <;> rfl

/-- Everything an instruction that answers a next state can do. -/
theorem exec_next_cases {i : Instr} {s t : State} (h : exec i s = .next t) :
    (s.voice.halted = true ∧ t = deliver s .errConfig 0 (haltedAudio i.command) none)
    ∨ (s.voice.halted = false ∧ runCommand i.command s = .next t) := by
  rw [exec_eq_runCommand] at h
  cases hh : s.voice.halted with
  | true =>
    rw [hh, if_pos rfl] at h
    cases h
    exact .inl ⟨rfl, rfl⟩
  | false =>
    rw [hh, if_neg (by decide)] at h
    exact .inr ⟨rfl, h⟩

/-- A word that decode refuses has the effect of an illegal instruction (30_encoding.md R259). -/
theorem execWord_eq_exec (w : Word) (s : State) : ∃ i, execWord w s = exec i s := by
  unfold execWord
  cases decode w with
  | ok i => exact ⟨i, rfl⟩
  | error e => exact ⟨.illegalA 0, rfl⟩

/-- A RENDER_SAMPLE that answers a next state changes what a sample advances only. -/
theorem renderActive_only {s t : State} (h : renderActive s = .next t) : onlyRendered s t := by
  rcases renderActive_cases s with ⟨-, e⟩ | ⟨g, s', -, e, only⟩
  · rw [h] at e; cases e
  · rw [h] at e; cases e; exact only

theorem tickControl_cfg (s : State) : (tickControl s).cfg = s.cfg := by unfold tickControl; simp only; split <;> rfl
theorem tickControl_regs (s : State) : (tickControl s).voice.regs = s.voice.regs := by
  unfold tickControl; simp only; split <;> rfl
theorem tickControl_program (s : State) : (tickControl s).program = s.program := by
  unfold tickControl; simp only; split <;> rfl

/-- A read answers and may raise a STATUS bit, so every register is as before. -/
theorem readParam_regAt (s : State) (a : PAddr) (k : Nat) : regAt (readParam s a) k = regAt s k := by
  rcases readParam_cases s a with ⟨-, e⟩ | ⟨r, -, e⟩ <;> rw [e] <;> rfl

/-- A command that is no WRITE_PARAM leaves every parameter register as it was. -/
theorem runCommand_regAt {c : Command} {s t : State} (h : runCommand c s = .next t) (hc : ∀ a v, c ≠ .write a v) (k : Nat) :
    regAt t k = regAt s k := by
  cases c with
  | nop => cases h; rfl
  | write a v => exact absurd rfl (hc a v)
  | read a => cases h; exact readParam_regAt s a k
  | setFrequency mhz => cases h; rfl
  | noteOn => cases h; rfl
  | noteOff => cases h; rfl
  | tickControl =>
    cases h
    exact regAt_congr (tickControl_cfg s) (tickControl_regs s) (congrArg Program.regs (tickControl_program s)) k
  | renderSample =>
    simp only [runCommand] at h
    split at h
    · exact onlyRendered_regAt (renderActive_only h) k
    · cases h; rfl
  | clearFilters => cases h; rfl
  | buildPad =>
    cases h
    exact regAt_congr (padRequest_cfg s) (congrArg Voice.regs (padRequest_voice s)) (padRequest_regs s) k
  | illegal opc x => cases h; rfl

/-- Settles O43, by the command of the instruction. -/
theorem onlyWritesChangeRegisters : Obligations.OnlyWritesChangeRegisters := by
  intro i s t h hc k
  rcases exec_next_cases h with ⟨-, rfl⟩ | ⟨-, h⟩
  · rfl
  · exact runCommand_regAt h hc k

end Sys2Proof.Machine
end

section
/-! PROOFS. The domains of the register map (10_state.md R52, R54): the clamp of a write leads into the register's domain and leaves
its values as they are (40_voice.md R302, R314). -/

namespace Sys2Proof.Machine

/-- A domain's bounds are in order and fit the 16 bits of a register. -/
def domFits : Domain → Bool
  | .range lo hi => decide (-32768 ≤ lo) && decide (lo ≤ hi) && decide (hi ≤ 32767)
  | .lfoSel => true
  | .tablePos => true

/-- A row without its reset value, which is all of it that does not depend on `MSO_LEN`. -/
def rowKind (r : RegInfo) : Domain × Access := (r.dom, r.access)

theorem msobRow_rowKind (L i : Nat) : (msobRow L i).map rowKind = (msobRow 2048 i).map rowKind := by
  unfold msobRow; split <;> rfl

/-- Domain and access of an address do not depend on `MSO_LEN`. -/
theorem regInfo_rowKind (L : Nat) (a : PAddr) : (regInfo L a).map rowKind = (regInfo 2048 a).map rowKind := by
  unfold regInfo
  simp only
  split
  case h_16 => exact msobRow_rowKind L _
  all_goals rfl

theorem domFits_table : ∀ u : Fin 16, ∀ i : Fin 256,
    ((regInfo 2048 (BitVec.ofNat 12 (256 * u.val + i.val))).map rowKind).all
      (fun k => !decide (k.2 = .rw) || domFits k.1) = true := by
  decide +kernel

/-- The domain of every read-write register fits the register. A read-only one need not: GEN counts to 65535. -/
theorem domFits_of_rw {L : Nat} {a : PAddr} {r : RegInfo} (h : regInfo L a = some r) (ha : r.access = .rw) :
    domFits r.dom = true := by
  obtain ⟨u, i, rfl⟩ := paddr_split a
  have table := domFits_table u i
  rw [← regInfo_rowKind L, h] at table
  simpa [rowKind, ha] using table

theorem domFits_range {lo hi : Int} : domFits (.range lo hi) = true ↔ -32768 ≤ lo ∧ lo ≤ hi ∧ hi ≤ 32767 := by
  simp only [domFits, Bool.and_eq_true, decide_eq_true_eq, and_assoc]

theorem inDomain_range {L : Nat} {lo hi x : Int} : inDomain L (.range lo hi) x = true ↔ lo ≤ x ∧ x ≤ hi := by
  simp only [inDomain, Bool.and_eq_true, decide_eq_true_eq]

theorem inDomain_lfoSel {L : Nat} {x : Int} : inDomain L .lfoSel x = true ↔ 0 ≤ x ∧ x % 16 ≤ 5 ∧ x / 16 ≤ 4 := by
  simp only [inDomain, Bool.and_eq_true, decide_eq_true_eq, and_assoc]

theorem inDomain_tablePos {L : Nat} {x : Int} : inDomain L .tablePos x = true ↔ 0 ≤ x ∧ x ≤ (L : Int) - 1 := by
  simp only [inDomain, Bool.and_eq_true, decide_eq_true_eq]

/-- A legal `MSO_LEN` lies in 64..32768 (00_scope.md R7). -/
theorem msoLen_bounds {L : Nat} (h : msoLens.contains L = true) : 64 ≤ L ∧ L ≤ 32768 := by
  have all : ∀ n ∈ msoLens, 64 ≤ n ∧ n ≤ 32768 := by decide
  exact all L (List.contains_iff_mem.mp h)

/-- A clamp lies between its bounds. -/
theorem intClamp_bounds {lo hi : Int} (x : Int) (h : lo ≤ hi) : lo ≤ intClamp x lo hi ∧ intClamp x lo hi ≤ hi := by
  unfold intClamp; omega

/-- A clamp leaves a value between its bounds as it is. -/
theorem intClamp_of_bounds {x lo hi : Int} (h1 : lo ≤ x) (h2 : x ≤ hi) : intClamp x lo hi = x := by
  unfold intClamp; omega

/-- The clamp of an LFO selector is one: index 0..5, delay code 0..4 (10_state.md R53). -/
theorem inDomain_lfoSelClamp (L : Nat) (v : RegVal) : inDomain L .lfoSel (lfoSelClamp v) = true := by
  rw [inDomain_lfoSel]
  unfold lfoSelClamp
  split <;> omega

/-- The clamp leaves an LFO selector as it is: of a value of the domain only bits 2..0 and 6..4 are set. -/
theorem lfoSelClamp_of_inDomain {L : Nat} {v : RegVal} (h : inDomain L .lfoSel v.toInt = true) : lfoSelClamp v = v.toInt := by
  obtain ⟨nonneg, index, delay⟩ := inDomain_lfoSel.mp h
  have hv : v.toInt = v.toNat := BitVec.toInt_eq_toNat_of_msb (by rw [BitVec.msb_eq_toInt]; simpa using nonneg)
  rw [hv] at index delay
  unfold lfoSelClamp
  rw [if_neg (not_lt.mpr nonneg), hv]
  omega

/-- A clamped value lies in its domain. -/
theorem inDomain_domainClamp {L : Nat} {d : Domain} (v : RegVal) (hd : domFits d = true) (hL : 1 ≤ L) :
    inDomain L d (domainClamp L d v) = true := by
  cases d with
  | range lo hi =>
    obtain ⟨-, order, -⟩ := domFits_range.mp hd
    exact inDomain_range.mpr (intClamp_bounds v.toInt order)
  | lfoSel => exact inDomain_lfoSelClamp L v
  | tablePos =>
    have order : (0 : Int) ≤ (L : Int) - 1 := by omega
    exact inDomain_tablePos.mpr (intClamp_bounds v.toInt order)

/-- The clamp leaves a value of the domain as it is. -/
theorem domainClamp_of_inDomain {L : Nat} {d : Domain} {v : RegVal} (h : inDomain L d v.toInt = true) :
    domainClamp L d v = v.toInt := by
  cases d with
  | range lo hi =>
    obtain ⟨above, below⟩ := inDomain_range.mp h
    exact intClamp_of_bounds above below
  | lfoSel => exact lfoSelClamp_of_inDomain h
  | tablePos =>
    obtain ⟨above, below⟩ := inDomain_tablePos.mp h
    exact intClamp_of_bounds above below

/-- A value of a domain fits 16 bits. -/
theorem toInt_ofInt_of_inDomain {L : Nat} {d : Domain} {x : Int} (hd : domFits d = true) (hL : L ≤ 32768)
    (h : inDomain L d x = true) : (BitVec.ofInt 16 x).toInt = x := by
  have fits : -32768 ≤ x ∧ x < 32768 := by
    cases d with
    | range lo hi =>
      have bounds := domFits_range.mp hd
      have within := inDomain_range.mp h
      omega
    | lfoSel =>
      have within := inDomain_lfoSel.mp h
      omega
    | tablePos =>
      have within := inDomain_tablePos.mp h
      omega
  exact BitVec.toInt_ofInt_eq_self (by decide) fits.1 fits.2

/-- What a write stores lies in the domain of the register. -/
theorem inDomain_stored {L : Nat} {a : PAddr} {r : RegInfo} (v : RegVal) (hL : msoLens.contains L = true)
    (hr : regInfo L a = some r) (ha : r.access = .rw) :
    inDomain L r.dom (BitVec.ofInt 16 (domainClamp L r.dom v)).toInt = true := by
  obtain ⟨hlo, hhi⟩ := msoLen_bounds hL
  have fits := domFits_of_rw hr ha
  have clamped := inDomain_domainClamp v fits (by omega : 1 ≤ L)
  rw [toInt_ofInt_of_inDomain fits hhi clamped]
  exact clamped

/-- Settles O19, by the form of the register's domain. -/
theorem storedValuesLieInTheDomain : Obligations.StoredValuesLieInTheDomain := by
  intro L a r v hL hr ha
  refine ⟨inDomain_stored v hL hr ha, fun hv => ?_⟩
  rw [domainClamp_of_inDomain hv, BitVec.ofInt_toInt]

end Sys2Proof.Machine
end

section
/-! PROOFS. Every step keeps the invariant (Safety.lean): the Table Builder's steps, the change of the current core, and every
command. -/

namespace Sys2Proof.Machine

/-- A change of the current core's state and of the shared state keeps the invariant when it keeps their parts. -/
theorem StateInv.of_parts {s t : State} (hs : StateInv s) (cfg : t.cfg = s.cfg) (others : t.others = s.others)
    (core : t.voice.core = s.voice.core) (mem : Memory.wf t = true) (voice : VoiceParts s.cfg t.voice)
    (program : ProgramParts s.cfg t.program) : StateInv t := by
  refine ⟨mem, ?_, ?_, ?_, ?_, ?_⟩
  · rw [cfg]; exact hs.rates
  · rw [cfg]; exact voiceOk_iff.mpr voice
  · rw [others, cfg]; exact hs.others
  · rw [cfg]; exact programOk_iff.mpr program
  · unfold coresOk
    rw [others, core]
    exact hs.cores

theorem StateInv.voiceParts {s : State} (hs : StateInv s) : VoiceParts s.cfg s.voice := voiceOk_iff.mp hs.voice

theorem StateInv.programParts {s : State} (hs : StateInv s) : ProgramParts s.cfg s.program := programOk_iff.mp hs.program

/-- What stands on the ports is no part of the invariant. -/
theorem StateInv.of_ports {s : State} (hs : StateInv s) (port : List (Nat × Word)) (out : PortOut) :
    StateInv { s with port := port, out := out } :=
  ⟨hs.mem, hs.rates, hs.voice, hs.others, hs.program, hs.cores⟩

theorem StateInv.deliver {s : State} {rc : Rc} {data : BitVec 16} {audio : Option (F32 × F32)} {event : Option (BitVec 8)}
    (hs : StateInv s) : StateInv (deliver s rc data audio event) :=
  hs.of_ports s.port _

theorem StateInv.respond {s : State} {rc : Rc} {data : BitVec 16} (hs : StateInv s) : StateInv (respond s rc data) :=
  hs.deliver

/-- A change of the current core keeps the invariant when it leaves its stores and keeps its parts. -/
theorem StateInv.of_voice {s : State} (hs : StateInv s) {v : Voice} (core : v.core = s.voice.core)
    (regs : v.regs = s.voice.regs) (buf : v.ks.buf = s.voice.ks.buf) (parts : VoiceParts s.cfg v) :
    StateInv { s with voice := v } := by
  have mem : Memory.wf { s with voice := v } = Memory.wf s := memory_wf_congr rfl regs buf rfl rfl
  exact hs.of_parts rfl rfl core (mem.trans hs.mem) parts hs.programParts

/-- A command that is turned away keeps the invariant: STATUS is no part of it. -/
theorem StateInv.rejectCommand {s : State} (hs : StateInv s) (b : StatusBit) : StateInv (rejectCommand s b) :=
  (hs.of_voice rfl rfl rfl { hs.voiceParts with } : StateInv (raiseStatus s b)).respond

/-- A running core has a legal configuration (10_state.md R81). -/
theorem StateInv.cfgLegal_of_running {s : State} (hs : StateInv s) (running : s.voice.halted = false) :
    cfgLegal s.cfg = true := by
  have halted := hs.voiceParts.halted
  rw [running] at halted
  simpa using halted.symm

/-! ### The Table Builder and the change of the current core -/

/-- A voice step of the Table Builder changes its countdowns only, which are no part of the invariant. -/
theorem StateInv.builderCountdown {s : State} (hs : StateInv s) :
    StateInv { s with program := builderCountdown s.program } :=
  hs.of_parts rfl rfl rfl ((memory_wf_congr (s := s) rfl rfl rfl rfl rfl).trans hs.mem) hs.voiceParts { hs.programParts with }

theorem padSwap_frame (s : State) :
    (padSwap s).cfg = s.cfg ∧ (padSwap s).voice = s.voice ∧ (padSwap s).others = s.others := by
  unfold padSwap; simp only; split <;> exact ⟨rfl, rfl, rfl⟩

theorem msoSwap_frame (s : State) :
    (msoSwap s).cfg = s.cfg ∧ (msoSwap s).voice = s.voice ∧ (msoSwap s).others = s.others := by
  unfold msoSwap; simp only; split <;> exact ⟨rfl, rfl, rfl⟩

theorem StateInv.padSwap {s : State} (hs : StateInv s) (busy : s.program.padBusy = true) : StateInv (padSwap s) := by
  obtain ⟨cfg, voice, others⟩ := padSwap_frame s
  exact hs.of_parts cfg others (congrArg Voice.core voice) (memory_wf_padSwap hs.mem) (voice ▸ hs.voiceParts)
    (padSwap_ok busy hs.programParts)

theorem StateInv.msoSwap {s : State} (hs : StateInv s) (busy : s.program.msoBusy = true) : StateInv (msoSwap s) := by
  obtain ⟨cfg, voice, others⟩ := msoSwap_frame s
  exact hs.of_parts cfg others (congrArg Voice.core voice) (memory_wf_msoSwap hs.mem) (voice ▸ hs.voiceParts)
    (msoSwap_ok busy hs.programParts)

/-- What rises from above a bound has every number at least that bound. -/
theorem le_core_of_coresRise {lo : Nat} {vs : List Voice} (h : coresRise lo vs = true) : ∀ v ∈ vs, lo ≤ v.core := by
  induction vs generalizing lo with
  | nil => intro v hv; cases hv
  | cons x xs ih =>
    simp only [coresRise, Bool.and_eq_true, decide_eq_true_eq] at h
    obtain ⟨hx, rest⟩ := h
    intro v hv
    rcases List.mem_cons.mp hv with rfl | hv
    · exact hx
    · have := ih rest v hv
      omega

theorem coresRise_mono {lo lo' : Nat} {vs : List Voice} (hlo : lo ≤ lo') (h : coresRise lo' vs = true) :
    coresRise lo vs = true := by
  cases vs with
  | nil => rfl
  | cons x xs =>
    simp only [coresRise, Bool.and_eq_true, decide_eq_true_eq] at h ⊢
    exact ⟨by omega, h.2⟩

/-- Without one core the others still stand by rising number. -/
theorem coresRise_dropVoice {lo : Nat} {vs : List Voice} (core : Nat) (h : coresRise lo vs = true) :
    coresRise lo (dropVoice core vs) = true := by
  induction vs generalizing lo with
  | nil => rfl
  | cons x xs ih =>
    simp only [coresRise, Bool.and_eq_true, decide_eq_true_eq] at h
    obtain ⟨hx, rest⟩ := h
    unfold dropVoice
    split
    · exact coresRise_mono (by omega) rest
    · simp only [coresRise, Bool.and_eq_true, decide_eq_true_eq]
      exact ⟨hx, ih rest⟩

/-- A core with a number of its own finds its place among the others. -/
theorem coresRise_insertVoice {lo : Nat} {v : Voice} {vs : List Voice} (hv : lo ≤ v.core) (own : ∀ x ∈ vs, x.core ≠ v.core)
    (h : coresRise lo vs = true) : coresRise lo (insertVoice v vs) = true := by
  induction vs generalizing lo with
  | nil => simpa [insertVoice, coresRise] using hv
  | cons x xs ih =>
    simp only [coresRise, Bool.and_eq_true, decide_eq_true_eq] at h
    obtain ⟨hx, rest⟩ := h
    have ne : x.core ≠ v.core := own x List.mem_cons_self
    unfold insertVoice
    split
    · next lt =>
      simp only [coresRise, Bool.and_eq_true, decide_eq_true_eq]
      exact ⟨hv, lt, rest⟩
    · next le =>
      simp only [coresRise, Bool.and_eq_true, decide_eq_true_eq]
      exact ⟨hx, ih (by omega) (fun y hy => own y (List.mem_cons_of_mem x hy)) rest⟩

/-- In a rising list a number stands once: it is gone with its core. -/
theorem core_ne_of_mem_dropVoice {lo core : Nat} {vs : List Voice} (h : coresRise lo vs = true) :
    ∀ v ∈ dropVoice core vs, v.core ≠ core := by
  induction vs generalizing lo with
  | nil => intro v hv; cases hv
  | cons x xs ih =>
    simp only [coresRise, Bool.and_eq_true, decide_eq_true_eq] at h
    obtain ⟨-, rest⟩ := h
    unfold dropVoice
    split
    · next hx =>
      intro v hv
      have above := le_core_of_coresRise rest v hv
      omega
    · next hx =>
      intro v hv
      rcases List.mem_cons.mp hv with rfl | hv
      · exact hx
      · exact ih rest v hv

/-- Making another core the current one keeps the invariant. -/
theorem StateInv.focus {s t : State} {core : Nat} (hs : StateInv s) (h : focus s core = some t) : StateInv t := by
  have mem := memory_wf_focus h hs.mem
  rcases focus_cases s core with ⟨-, e⟩ | ⟨-, -, e⟩ | ⟨v, ne, found, e⟩
  · rw [h] at e; cases e; exact hs
  · rw [h] at e; cases e
  · rw [h] at e; cases e
    have good := List.all_eq_true.mp hs.others
    obtain ⟨rise, own⟩ := Bool.and_eq_true_iff.mp hs.cores
    have own : ∀ x ∈ s.others, x.core ≠ s.voice.core := fun x hx => of_decide_eq_true (List.all_eq_true.mp own x hx)
    refine ⟨mem, hs.rates, good v (findVoice_mem found), List.all_eq_true.mpr fun x hx => ?_, hs.program,
      Bool.and_eq_true_iff.mpr ⟨?_, List.all_eq_true.mpr fun x hx => decide_eq_true ?_⟩⟩
    · rcases mem_insertVoice.mp hx with rfl | hx
      · exact hs.voice
      · exact good x (mem_of_mem_dropVoice hx)
    · exact coresRise_insertVoice (Nat.zero_le _) (fun x hx => own x (mem_of_mem_dropVoice hx)) (coresRise_dropVoice core rise)
    · show x.core ≠ v.core
      rw [findVoice_core found]
      rcases mem_insertVoice.mp hx with rfl | hx
      · exact ne
      · exact core_ne_of_mem_dropVoice rise x hx

theorem StateInv.voiceStart {s t : State} {core : Nat} {rest : List (Nat × Word)} (hs : StateInv s)
    (h : voiceStart s core rest = some t) : StateInv t := by
  unfold Machine.voiceStart at h
  split at h
  · cases h
  · next u hu => cases h; exact ((hs.focus hu).builderCountdown).of_ports rest _

/-! ### WRITE_PARAM -/

/-- The quirk sends a write to a read-write register of the same domain (40_voice.md R336). -/
theorem quirkTarget_row {L : Nat} {a : PAddr} {r : RegInfo} (quirk : Bool) (hr : regInfo L a = some r) (ha : r.access = .rw) :
    ∃ r', regInfo L (quirkTarget quirk a) = some r' ∧ r'.access = .rw ∧ r'.dom = r.dom := by
  unfold quirkTarget
  split
  · next h =>
    obtain ⟨-, rfl⟩ : quirk = true ∧ a = 0x51E#12 := by simpa using h
    cases hr
    exact ⟨_, rfl, rfl, rfl⟩
  · split
    · next h =>
      obtain ⟨-, rfl⟩ : quirk = true ∧ a = 0x51F#12 := by simpa using h
      cases hr
      exact ⟨_, rfl, rfl, rfl⟩
    · exact ⟨r, hr, ha, rfl⟩

/-- The entry that a write lists is a good one. -/
theorem cellOk_stored {L : Nat} {a : PAddr} {r : RegInfo} (quirk : Bool) (v : RegVal) (hL : msoLens.contains L = true)
    (hr : regInfo L a = some r) (ha : r.access = .rw) :
    cellOk L ((quirkTarget quirk a).toNat, BitVec.ofInt 16 (domainClamp L r.dom v)) = true := by
  obtain ⟨r', hr', ha', hd⟩ := quirkTarget_row quirk hr ha
  unfold cellOk
  simp only [BitVec.ofNat_toNat, BitVec.setWidth_eq, hr', ha', hd]
  simpa using inDomain_stored v hL hr ha

/-- Listing a good entry keeps the registers of a core good. -/
theorem setReg_voiceParts {s : State} {k : Nat} {v : RegVal} (cell : cellOk s.cfg.msoLen (k, v) = true)
    (hv : VoiceParts s.cfg s.voice) : VoiceParts s.cfg (setReg s k v).voice := by
  unfold setReg
  split
  · exact hv
  · next own =>
    have below : k < 0xE00 := by simpa [isShared] using own
    exact { hv with
      regs := storeSet_all _ _ cell hv.regs
      regsIn := storeSet_all _ _ (by simpa using below) hv.regsIn }

/-- Listing a good entry keeps the shared registers good. -/
theorem setReg_programParts {s : State} {k : Nat} {v : RegVal} (cell : cellOk s.cfg.msoLen (k, v) = true) (hk : k < 0x1000)
    (hp : ProgramParts s.cfg s.program) : ProgramParts s.cfg (setReg s k v).program := by
  unfold setReg
  split
  · next shared =>
    have above : 0xE00 ≤ k := by simpa [isShared] using shared
    exact { hp with
      regs := storeSet_all _ _ cell hp.regs
      regsIn := storeSet_all _ _ (by simpa using ⟨above, hk⟩) hp.regsIn }
  · exact hp

/-- Storing a good entry keeps the invariant. -/
theorem StateInv.setReg {s : State} {k : Nat} {v : RegVal} (hs : StateInv s) (cell : cellOk s.cfg.msoLen (k, v) = true)
    (hk : k < 0x1000) : StateInv (setReg s k v) :=
  hs.of_parts (setReg_cfg s k v) (setReg_others s k v) (by rw [setReg_voice]) (memory_wf_setReg k v hs.mem)
    (setReg_voiceParts cell hs.voiceParts) (setReg_programParts cell hk hs.programParts)

theorem StateInv.padRequest {s : State} (hs : StateInv s) (legal : cfgLegal s.cfg = true) : StateInv (padRequest s) :=
  hs.of_parts (padRequest_cfg s) (padRequest_others s) (by rw [padRequest_voice]) (memory_wf_padRequest hs.mem)
    (by rw [padRequest_voice]; exact hs.voiceParts) (padRequest_ok legal hs.programParts)

theorem StateInv.msoRequest {s : State} (hs : StateInv s) (legal : cfgLegal s.cfg = true) : StateInv (msoRequest s) :=
  hs.of_parts (msoRequest_cfg s) (msoRequest_others s) (by rw [msoRequest_voice]) (memory_wf_msoRequest hs.mem)
    (by rw [msoRequest_voice]; exact hs.voiceParts) (msoRequest_ok legal hs.programParts)

theorem msoLen_of_cfgLegal {c : Cfg} (legal : cfgLegal c = true) : msoLens.contains c.msoLen = true := by
  simp only [cfgLegal, Bool.and_eq_true] at legal
  obtain ⟨⟨⟨⟨⟨len, -⟩, -⟩, -⟩, -⟩, -⟩ := legal
  exact len

/-- Storing a clamped value, with the build that a write to MSOB requests, keeps the invariant. -/
theorem StateInv.storeParam {s : State} {a : PAddr} {r : RegInfo} (hs : StateInv s) (legal : cfgLegal s.cfg = true) (v : RegVal)
    (hr : regInfo s.cfg.msoLen a = some r) (ha : r.access = .rw) :
    StateInv (storeParam s a (domainClamp s.cfg.msoLen r.dom v)) := by
  have cell := cellOk_stored s.cfg.quirkMsoSetters v (msoLen_of_cfgLegal legal) hr ha
  have stored := hs.setReg cell (quirkTarget s.cfg.quirkMsoSetters a).isLt
  unfold Machine.storeParam
  simp only
  split
  · exact stored.msoRequest (by rw [setReg_cfg]; exact legal)
  · exact stored

theorem StateInv.writeParam {s : State} (hs : StateInv s) (legal : cfgLegal s.cfg = true) (a : PAddr) (v : RegVal) :
    StateInv (writeParam s a v) := by
  rcases writeParam_cases s a v with ⟨-, e⟩ | ⟨r, -, -, e⟩ | ⟨r, -, -, e⟩ | ⟨r, hr, ha, e⟩ <;> rw [e]
  · exact hs.rejectCommand .badAddr
  · exact hs.rejectCommand .roWrite
  · exact .respond (hs.of_voice rfl rfl rfl { hs.voiceParts with })
  · exact (hs.storeParam legal v hr ha).respond

theorem StateInv.readParam {s : State} (hs : StateInv s) (a : PAddr) : StateInv (readParam s a) := by
  rcases readParam_cases s a with ⟨-, e⟩ | ⟨r, -, e⟩ <;> rw [e]
  · exact hs.rejectCommand .badAddr
  · exact hs.respond

/-! ### The voice commands -/

theorem StateInv.setFrequency {s : State} (hs : StateInv s) (mhz : BitVec 28) : StateInv (setFrequency s mhz) :=
  .respond (hs.of_voice rfl rfl rfl { hs.voiceParts with })

/-- NOTE_ON sets both flags, leaves no Idle envelope with a level, and plucks a string of a legal length (40_voice.md R305). -/
theorem StateInv.noteOn {s : State} (hs : StateInv s) : StateInv (noteOn s) := by
  have hv := hs.voiceParts
  obtain ⟨shortest, longest⟩ := ksLength_bounds s
  exact hs.of_parts rfl rfl rfl (memory_wf_noteOn hs.mem) { hv with
    buf := storeWithin_setPrefix hv.buf (by rw [ksExcitation_length]; exact longest)
    len2 := shortest
    len := longest
    pos := (by omega : 0 < ksLength s)
    flags := rfl
    e1 := adsrNoteOn_idleZero hv.e1
    e2 := adsrNoteOn_idleZero hv.e2
    e3 := adsrNoteOn_idleZero hv.e3
    e4 := adsrNoteOn_idleZero hv.e4
    e5 := adsrNoteOn_idleZero hv.e5 } hs.programParts

/-- NOTE_OFF leaves the flags of the invariant and the delay line (40_voice.md R306). -/
theorem StateInv.noteOff {s : State} (hs : StateInv s) : StateInv (noteOff s) := by
  have hv := hs.voiceParts
  exact .respond (hs.of_voice rfl rfl rfl { hv with
    e1 := adsrNoteOff_idleZero hv.e1
    e2 := adsrNoteOff_idleZero hv.e2
    e3 := adsrNoteOff_idleZero hv.e3
    e4 := adsrNoteOff_idleZero hv.e4
    e5 := adsrNoteOff_idleZero hv.e5 })

/-- The sources of a tick: of the invariant's parts only the envelopes move (40_voice.md R307). -/
theorem StateInv.tickSources {s : State} (hs : StateInv s) : StateInv (tickSources s) := by
  have hv := hs.voiceParts
  exact hs.of_voice rfl rfl rfl { hv with
    e1 := adsrTick_idleZero hv.e1
    e2 := adsrTick_idleZero hv.e2
    e3 := adsrTick_idleZero hv.e3
    e4 := adsrTick_idleZero hv.e4
    e5 := adsrTick_idleZero hv.e5 }

/-- The end of a voice clears both flags (40_voice.md R334). -/
theorem StateInv.endVoice {s : State} (hs : StateInv s) : StateInv (endVoice s) :=
  hs.of_voice rfl rfl rfl { hs.voiceParts with flags := rfl }

theorem StateInv.tickControl {s : State} (hs : StateInv s) : StateInv (tickControl s) := by
  unfold Machine.tickControl
  simp only
  split
  · exact hs.tickSources.endVoice.deliver
  · exact hs.tickSources.respond

/-! ### RENDER_SAMPLE -/

theorem renderOsc1_voiceParts {c : Cfg} {s : State} (hv : VoiceParts c s.voice) : VoiceParts c (renderOsc1 s).2.voice := by
  obtain ⟨_, e⟩ := renderOsc1_state s
  rw [e]
  exact { hv with }

theorem renderOsc2_voiceParts {c : Cfg} {s : State} (hv : VoiceParts c s.voice) : VoiceParts c (renderOsc2 s).2.voice := by
  obtain ⟨_, e⟩ := renderOsc2_state s
  rw [e]
  exact { hv with }

theorem renderNoise_voiceParts {c : Cfg} {s : State} (hv : VoiceParts c s.voice) : VoiceParts c (renderNoise s).2.voice := by
  obtain ⟨_, e⟩ := renderNoise_state s
  rw [e]
  exact { hv with }

theorem renderMso_voiceParts {c : Cfg} {b : Bool} {s : State} {r : F32 × State} (h : renderMso b s = some r)
    (hv : VoiceParts c s.voice) : VoiceParts c r.2.voice := by
  obtain ⟨_, e⟩ := renderMso_state h
  rw [e]
  exact { hv with }

/-- The bank a select bit names has a length of `PAD_LEN_SET`. -/
theorem padBank_len {c : Cfg} {p : Program} (hp : ProgramParts c p) (b : Bool) : padLens.contains (padBank p b).len = true := by
  unfold padBank
  split
  · exact (Bool.and_eq_true_iff.mp hp.pad1).1
  · exact (Bool.and_eq_true_iff.mp hp.pad0).1

/-- The PAD reader keeps the length it saw or takes that of its bank (46_pad.md R613). -/
theorem renderPad_voiceParts {c : Cfg} {b : Bool} {s : State} {r : F32 × F32 × State} (h : renderPad b s = some r)
    (hv : VoiceParts c s.voice) (hp : ProgramParts c s.program) : VoiceParts c r.2.2.voice := by
  have seen : padLens.contains r.2.2.voice.padLenSeen = true := by
    rcases renderPad_lenSeen h with e | e <;> rw [e]
    · exact hv.pad
    · exact padBank_len hp b
  obtain ⟨_, n, e⟩ := renderPad_state h
  rw [e] at seen ⊢
  exact { hv with pad := seen }

/-- The generators, one after the other, keep the voice good. -/
theorem generateAll_voiceParts {s s' : State} {g : Gens} (h : generateAll s = some (g, s')) (hv : VoiceParts s.cfg s.voice)
    (hp : ProgramParts s.cfg s.program) : VoiceParts s.cfg s'.voice := by
  obtain ⟨m, p, hm, hpad, -, rfl⟩ := generateAll_cases h
  have beforeKs : VoiceParts s.cfg (renderNoise (renderOsc2 (renderOsc1 s).2).2).2.voice :=
    renderNoise_voiceParts (renderOsc2_voiceParts (renderOsc1_voiceParts hv))
  have onlyKs : onlyRendered s (renderNoise (renderOsc2 (renderOsc1 s).2).2).2 :=
    onlyRendered_trans (renderOsc1_only s) (onlyRendered_trans (renderOsc2_only _) (renderNoise_only _))
  have onlyMso : onlyRendered s m.2 := onlyRendered_trans onlyKs (onlyRendered_trans (renderKs_only _) (renderMso_only hm))
  rw [← onlyRendered_cfg onlyKs] at beforeKs
  have afterKs := renderKs_ok beforeKs
  rw [onlyRendered_cfg onlyKs] at afterKs
  rw [← onlyRendered_program onlyMso] at hp
  exact renderPad_voiceParts hpad (renderMso_voiceParts hm afterKs) hp

/-- The generators keep the invariant. -/
theorem StateInv.generateAll {s s' : State} {g : Gens} (hs : StateInv s) (h : generateAll s = some (g, s')) : StateInv s' := by
  have only := generateAll_only h
  exact hs.of_parts (onlyRendered_cfg only) (onlyRendered_others only) (onlyRendered_core only)
    (memory_wf_generateAll h hs.mem) (generateAll_voiceParts h hs.voiceParts hs.programParts)
    (by rw [onlyRendered_program only]; exact hs.programParts)

/-- The mixer moves the filters only, which are no part of the invariant. -/
theorem StateInv.mixOut {s : State} (hs : StateInv s) (g : Gens) : StateInv (mixOut s g).2 := by
  rw [mixOut_state]
  exact hs.of_voice rfl rfl rfl { hs.voiceParts with }

/-- The last check of a sample delivers, after raising RT_FAULT and clearing the filters where the pair is not finite. -/
theorem StateInv.finishSample {s : State} (hs : StateInv s) (lr : F32 × F32) : StateInv (finishSample lr s) := by
  have fault : StateInv (rtFault s) := hs.of_voice rfl rfl rfl { hs.voiceParts with }
  rcases finishSample_cases lr s with ⟨-, -, e⟩ | ⟨-, e⟩ <;> rw [e]
  · exact hs.deliver
  · exact fault.deliver

theorem StateInv.renderActive {s t : State} (hs : StateInv s) (h : renderActive s = .next t) : StateInv t := by
  rcases renderActive_cases s with ⟨-, e⟩ | ⟨g, s', hg, e, -⟩
  · rw [h] at e; cases e
  · rw [h] at e; cases e
    exact ((hs.generateAll hg).mixOut g).finishSample _

/-! ### Every step -/

/-- A command of a running core keeps the invariant. -/
theorem StateInv.runCommand {c : Command} {s t : State} (hs : StateInv s) (running : s.voice.halted = false)
    (h : runCommand c s = .next t) : StateInv t := by
  have legal := hs.cfgLegal_of_running running
  cases c with
  | nop => cases h; exact hs.respond
  | write a v => cases h; exact hs.writeParam legal a v
  | read a => cases h; exact hs.readParam a
  | setFrequency mhz => cases h; exact hs.setFrequency mhz
  | noteOn => cases h; exact hs.noteOn
  | noteOff => cases h; exact hs.noteOff
  | tickControl => cases h; exact hs.tickControl
  | renderSample =>
    simp only [Machine.runCommand] at h
    split at h
    · exact hs.renderActive h
    · cases h; exact hs.deliver
  | clearFilters => cases h; exact .respond (hs.of_voice rfl rfl rfl { hs.voiceParts with })
  | buildPad => cases h; exact (hs.padRequest legal).respond
  | illegal opc x => cases h; exact hs.rejectCommand _

/-- An instruction keeps the invariant: a halted core changes its outputs only. -/
theorem StateInv.exec {i : Instr} {s t : State} (hs : StateInv s) (h : exec i s = .next t) : StateInv t := by
  rcases exec_next_cases h with ⟨-, rfl⟩ | ⟨running, h⟩
  · exact hs.deliver
  · exact hs.runCommand running h

theorem busy_of_padDue {p : Program} (h : padDue p = true) : p.padBusy = true := (Bool.and_eq_true_iff.mp h).1

theorem busy_of_msoDue {p : Program} (h : msoDue p = true) : p.msoBusy = true := (Bool.and_eq_true_iff.mp h).1

/-- Settles O51, by the agent of the step: the Table Builder's PAD swap and MSO swap, waiting, a word for no core, a core's word. -/
theorem everyStepKeepsTheInvariant : Obligations.EveryStepKeepsTheInvariant := by
  intro s t hs h
  unfold step at h
  split at h
  · next due => cases h; exact (hs.padSwap (busy_of_padDue due)).of_ports _ _
  · split at h
    · next due => cases h; exact (hs.msoSwap (busy_of_msoDue due)).of_ports _ _
    · split at h
      · cases h; exact hs.of_ports _ _
      · next core w rest _ =>
        split at h
        · cases h; exact hs.of_ports _ _
        · next u start =>
          obtain ⟨i, e⟩ := execWord_eq_exec w u
          rw [e] at h
          exact (hs.voiceStart start).exec h

end Sys2Proof.Machine
end

section
/-! PROOFS. A READ_PARAM on a running core answers the view of its address, and what the views show (10_state.md R55, R60;
40_voice.md R303, R304). -/

namespace Sys2Proof.Machine

/-- A read of a mapped address on a running core answers its view and changes nothing else. -/
theorem exec_read {i : Instr} {a : PAddr} {r : RegInfo} {s : State} {view : RegVal} (running : s.voice.halted = false)
    (hi : i.command = .read a) (hr : regInfo s.cfg.msoLen a = some r) (hview : readView s a = view) :
    exec i s = answered s .ok view := by
  rw [exec_eq_runCommand, running, if_neg (by decide), hi, ← hview]
  exact congrArg Host.Outcome.next (readParam_of_mapped hr)

/-- A narrow quantity is read with zeros above it. -/
theorem setWidth_eq_zero_append (k : Nat) {w : Nat} (x : BitVec w) : x.setWidth (k + w) = 0#k ++ x := by
  apply BitVec.eq_of_toNat_eq
  have fits : x.toNat < 2 ^ (k + w) := Nat.lt_of_lt_of_le x.isLt (Nat.pow_le_pow_right (by decide) (Nat.le_add_left w k))
  simp [Nat.mod_eq_of_lt fits]

/-- `{waits, active, in_use}` in bits 2, 1, 0 and zero above. -/
theorem voiceStateView_eq_append (waits active inUse : Bool) :
    ((if waits then 4 else 0) ||| (if active then 2 else 0) ||| (if inUse then 1 else 0) : RegVal)
      = 0#13 ++ BitVec.ofBool waits ++ BitVec.ofBool active ++ BitVec.ofBool inUse := by
  revert waits active inUse
  decide

/-- `{pending, busy}` in bits 1, 0 and zero above. -/
theorem busyView_eq_append (pending busy : Bool) :
    busyView pending busy = 0#14 ++ BitVec.ofBool pending ++ BitVec.ofBool busy := by
  revert pending busy
  decide

/-- Settles O17, view by view. -/
theorem viewsShowTheState : Obligations.ViewsShowTheState := by
  intro s running code
  have code_eq : ∀ x, BitVec.ofNat 16 (adsrCode x) = code x := by
    intro x
    cases x <;> rfl
  exact ⟨exec_read (a := 0x000) running rfl rfl (setWidth_eq_zero_append 8 _),
    exec_read (a := 0x001) running rfl rfl (voiceStateView_eq_append _ _ _),
    exec_read (a := 0x002) running rfl rfl (setWidth_eq_zero_append 11 _),
    exec_read (a := 0x003) running rfl rfl rfl,
    exec_read (a := 0xD08) running rfl rfl (code_eq _),
    exec_read (a := 0xD18) running rfl rfl (code_eq _),
    exec_read (a := 0xD28) running rfl rfl (code_eq _),
    exec_read (a := 0xD38) running rfl rfl (code_eq _),
    exec_read (a := 0xD48) running rfl rfl (code_eq _),
    exec_read (a := 0xE10) running rfl rfl (busyView_eq_append _ _),
    exec_read (a := 0xE11) running rfl rfl rfl,
    exec_read (a := 0xF10) running rfl rfl (busyView_eq_append _ _),
    exec_read (a := 0xF11) running rfl rfl rfl⟩

end Sys2Proof.Machine
end

section
/-! PROOFS. The state that power-on reset builds, quantity by quantity (10_state.md R80 to R82; 60_exceptions.md R705). -/

namespace Sys2Proof.Machine

/-- A core of a program after reset is `Voice.reset` of some number and identity, with the fallback flag of them all. -/
theorem exists_eq_reset_of_mem_resetWith {req : Cfg} {v : Voice}
    (hv : v ∈ (State.resetWith req).voice :: (State.resetWith req).others) :
    ∃ k vid, v = Voice.reset (cfgFallback req) (decide (cfgFallback req ≠ req)) k vid := by
  rcases List.mem_cons.mp hv with rfl | hv
  · exact ⟨_, _, rfl⟩
  · obtain ⟨k, vid, -, e⟩ := exists_eq_reset_of_mem_resetVoices hv
    exact ⟨k, vid, e⟩

/-! ### Registers -/

/-- Nothing is listed after reset, so a register holds its reset value. -/
theorem regAt_resetWith (req : Cfg) (k : Nat) : regAt (State.resetWith req) k = regReset req.msoLen k := by
  unfold regAt
  split <;> rfl

/-- The reset value of a mapped address is that of its row. -/
theorem regReset_of_regInfo {L : Nat} {a : PAddr} {r : RegInfo} (h : regInfo L a = some r) :
    regReset L a.toNat = BitVec.ofInt 16 r.reset := by
  unfold regReset
  rw [BitVec.ofNat_toNat, BitVec.setWidth_eq, h]

/-- 440.0 is finite, so its floor does not depend on `NUM`. -/
theorem numFloor_f440 (N : Num) : numFloor N f440 = 440 := by
  unfold numFloor
  rw [if_pos (by decide)]
  decide

/-- After reset every address but VOICE_ID and STATUS reads its reset value: no view shows anything else. -/
theorem readView_resetWith (req : Cfg) {a : PAddr} (identity : a ≠ 0x000) (status : a ≠ 0x002) :
    readView (State.resetWith req) a = regReset req.msoLen a.toNat := by
  have noFlag : (((if false then 4 else 0) ||| (if false then 2 else 0) ||| (if false then 1 else 0)) : RegVal) = 0 := by
    decide
  have noBuild : busyView false false = 0 := by decide
  unfold readView
  split
  case h_1 h => exact absurd (BitVec.eq_of_toNat_eq h) identity
  case h_2 h =>
    rw [h]
    exact noFlag
  case h_3 h => exact absurd (BitVec.eq_of_toNat_eq h) status
  case h_4 h =>
    have floor : numFloor (State.resetWith req).num (State.resetWith req).voice.voiceFreq = 440 := numFloor_f440 _
    rw [floor, h]
    rfl
  case h_10 h =>
    rw [h]
    exact noBuild
  case h_12 h =>
    rw [h]
    exact noBuild
  case h_14 => exact regAt_resetWith req a.toNat
  all_goals
    next h =>
      rw [h]
      rfl

/-- STATUS has no row that is read-only. -/
theorem ne_status_of_ro {L : Nat} {a : PAddr} {r : RegInfo} (h : regInfo L a = some r) (ha : r.access = .ro) : a ≠ 0x002 := by
  rintro rfl
  cases h
  cases ha

/-- The fallback changes nothing exactly when both rates were legal (00_scope.md R8). -/
theorem cfgFallback_eq_self_iff (req : Cfg) :
    cfgFallback req = req ↔ (req.fs = 44100 ∨ req.fs = 48000) ∧ 1 ≤ req.sub ∧ req.sub ≤ 256 := by
  constructor
  · intro h
    have rates := cfgRates_cfgFallback req
    rw [h] at rates
    simpa [cfgRates, and_assoc] using rates
  · rintro ⟨fs, sub⟩
    unfold cfgFallback
    rw [if_pos fs, if_pos sub]

/-- STATUS after reset: CFG_FALLBACK when a rate fell back, else nothing (60_exceptions.md R705). -/
theorem status_resetWith (req : Cfg) :
    (State.resetWith req).voice.status
      = if (req.fs = 44100 ∨ req.fs = 48000) ∧ 1 ≤ req.sub ∧ req.sub ≤ 256 then 0 else 0x10 := by
  have status : (State.resetWith req).voice.status = if decide (cfgFallback req ≠ req) then 0x10 else 0 := rfl
  rw [status]
  simp only [decide_eq_true_eq, ne_eq, cfgFallback_eq_self_iff, ite_not]

/-- Settles O55: registers by their rows, views by their addresses, STATUS by the rates, the other cores by their reset. -/
theorem resetRegisters : Obligations.ResetRegisters := by
  intro req s
  have breakpoint : ∀ k n, regReset req.msoLen k = BitVec.ofInt 16 (n : Nat) → regAt s k = BitVec.ofNat 16 n := by
    intro k n h
    rw [regAt_resetWith, h, BitVec.ofInt_natCast]
  refine ⟨fun a r hr _ => ?_, fun a r hr ha identity => ?_, status_resetWith req, setWidth_eq_zero_append 8 _, rfl,
    fun v hv => ?_, breakpoint 0xF00 _ rfl, breakpoint 0xF01 _ rfl, breakpoint 0xF02 _ rfl, breakpoint 0xF03 _ rfl,
    breakpoint 0xF04 _ rfl, breakpoint 0xF05 _ rfl⟩
  · exact (regAt_resetWith req a.toNat).trans (regReset_of_regInfo hr)
  · exact (readView_resetWith req identity (ne_status_of_ro hr ha)).trans (regReset_of_regInfo hr)
  · obtain ⟨k, vid, rfl⟩ := exists_eq_reset_of_mem_resetWith (List.mem_cons_of_mem _ hv)
    exact ⟨rfl, rfl⟩

/-! ### Datapath -/

/-- The pluck rate after reset is `FS/2` of the rate that the fallback leaves. -/
theorem fPluck_reset (req : Cfg) :
    fOfRatio ⟨(cfgFallback req).fs, 2⟩ = if req.fs = 48000 then 0x46BB8000 else 0x46AC4400 := by
  by_cases high : req.fs = 48000
  · have fs : (cfgFallback req).fs = 48000 := by simp [cfgFallback, high]
    rw [fs, if_pos high]
    decide
  · have fs : (cfgFallback req).fs = 44100 := by simp [cfgFallback, high]
    rw [fs, if_neg high]
    decide

/-- The five LFOs after reset draw from the seeds of units 4 to 8 (43_noise.md R501). -/
theorem fiveGet_lfo_reset (c : Cfg) (fell : Bool) (core : Nat) (vid : BitVec 8) {k : Nat} (h1 : 1 ≤ k) (h5 : k ≤ 5) :
    fiveGet (Voice.reset c fell core vid).lfo k = Lfo.reset vid (3 + k) := by
  interval_cases k <;> rfl

/-- The five envelopes after reset are Idle. -/
theorem fiveGet_adsr_reset (c : Cfg) (fell : Bool) (core : Nat) (vid : BitVec 8) (k : Nat) :
    fiveGet (Voice.reset c fell core vid).adsr k = Adsr.reset := by
  unfold fiveGet
  split <;> rfl

/-- Settles O56: every voice is `Voice.reset` of its number and identity. -/
theorem resetDatapath : Obligations.ResetDatapath := by
  intro req v hv
  obtain ⟨core, vid, rfl⟩ := exists_eq_reset_of_mem_resetWith hv
  exact ⟨rfl, rfl, rfl, rfl, rfl, rfl, rfl, rfl, rfl, fun _ => rfl, rfl, rfl, rfl, rfl, fPluck_reset req, rfl, rfl, rfl, rfl,
    rfl, rfl, fun _ => fiveGet_lfo_reset _ _ _ _, fun k _ _ => fiveGet_adsr_reset _ _ _ _ k⟩

/-! ### Tables -/

/-- Settles O57: nothing is listed, so every element reads as its space's reset contents (20_memory.md R200). -/
theorem resetTables : Obligations.ResetTables := by
  intro req s p
  have element : ∀ {d : Nat → F32} (j : Nat), storeGet d [] j = d j := fun _ => rfl
  exact ⟨rfl, rfl, fun j => ⟨element j, element j⟩, rfl, rfl, rfl, rfl, fun j => ⟨element j, element j, element j⟩, rfl, rfl, rfl,
    rfl, rfl, rfl⟩

end Sys2Proof.Machine
end

section
/-! PROOFS. No instruction reaches the tables (20_memory.md R204, R210), and from a good state none faults (R203; 60_exceptions.md
R701). -/

namespace Sys2Proof.Machine

/-! ### The tables -/

theorem sameTables_of_eq {p q : Program} (h : q = p) : sameTables p q := by
  subst h
  exact ⟨rfl, rfl, rfl, rfl, rfl, rfl, rfl, rfl, rfl⟩

theorem sameTables_trans {p q r : Program} (h1 : sameTables p q) (h2 : sameTables q r) : sameTables p r := by
  obtain ⟨pad0, pad1, padSel, padGen, m0, m1, base, msoSel, msoGen⟩ := h1
  obtain ⟨pad0', pad1', padSel', padGen', m0', m1', base', msoSel', msoGen'⟩ := h2
  exact ⟨pad0'.trans pad0, pad1'.trans pad1, padSel'.trans padSel, padGen'.trans padGen, m0'.trans m0, m1'.trans m1,
    base'.trans base, msoSel'.trans msoSel, msoGen'.trans msoGen⟩

/-- A register write reaches no table. -/
theorem setReg_sameTables (s : State) (k : Nat) (v : RegVal) : sameTables s.program (setReg s k v).program := by
  rw [setReg_program]
  exact ⟨rfl, rfl, rfl, rfl, rfl, rfl, rfl, rfl, rfl⟩

/-- A build request marks the build or takes its snapshot; it writes no table (46_pad.md R611). -/
theorem padRequest_sameTables (s : State) : sameTables s.program (padRequest s).program := by
  cases h : s.program.padBusy with
  | true => rw [padRequest_of_busy h]; exact ⟨rfl, rfl, rfl, rfl, rfl, rfl, rfl, rfl, rfl⟩
  | false => rw [padRequest_of_idle h]; exact ⟨rfl, rfl, rfl, rfl, rfl, rfl, rfl, rfl, rfl⟩

/-- A build request marks the build or takes its snapshot; it writes no table (45_mso.md R577). -/
theorem msoRequest_sameTables (s : State) : sameTables s.program (msoRequest s).program := by
  cases h : s.program.msoBusy with
  | true => rw [msoRequest_of_busy h]; exact ⟨rfl, rfl, rfl, rfl, rfl, rfl, rfl, rfl, rfl⟩
  | false => rw [msoRequest_of_idle h]; exact ⟨rfl, rfl, rfl, rfl, rfl, rfl, rfl, rfl, rfl⟩

/-- Storing a value writes a register and at most requests a build. -/
theorem storeParam_sameTables (s : State) (a : PAddr) (v : Int) : sameTables s.program (storeParam s a v).program := by
  unfold storeParam
  simp only
  split
  · exact sameTables_trans (setReg_sameTables s _ _) (msoRequest_sameTables _)
  · exact setReg_sameTables s _ _

theorem writeParam_sameTables (s : State) (a : PAddr) (v : RegVal) : sameTables s.program (writeParam s a v).program := by
  rcases writeParam_cases s a v with ⟨-, e⟩ | ⟨r, -, -, e⟩ | ⟨r, -, -, e⟩ | ⟨r, -, -, e⟩ <;> rw [e]
  · exact sameTables_of_eq rfl
  · exact sameTables_of_eq rfl
  · exact sameTables_of_eq rfl
  · exact storeParam_sameTables s a _

theorem readParam_program (s : State) (a : PAddr) : (readParam s a).program = s.program := by
  rcases readParam_cases s a with ⟨-, e⟩ | ⟨r, -, e⟩ <;> rw [e] <;> rfl

/-- Only a write and BUILD_PAD touch the shared state at all. -/
theorem runCommand_sameTables {c : Command} {s t : State} (h : runCommand c s = .next t) : sameTables s.program t.program := by
  cases c with
  | write a v => cases h; exact writeParam_sameTables s a v
  | buildPad => cases h; exact padRequest_sameTables s
  | read a => cases h; exact sameTables_of_eq (readParam_program s a)
  | tickControl => cases h; exact sameTables_of_eq (tickControl_program s)
  | renderSample =>
    simp only [runCommand] at h
    split at h
    · exact sameTables_of_eq (onlyRendered_program (renderActive_only h))
    · cases h; exact sameTables_of_eq rfl
  | nop => cases h; exact sameTables_of_eq rfl
  | setFrequency mhz => cases h; exact sameTables_of_eq rfl
  | noteOn => cases h; exact sameTables_of_eq rfl
  | noteOff => cases h; exact sameTables_of_eq rfl
  | clearFilters => cases h; exact sameTables_of_eq rfl
  | illegal opc x => cases h; exact sameTables_of_eq rfl

/-- Settles O42, by the command of the instruction. -/
theorem instructionsLeaveTheTables : Obligations.InstructionsLeaveTheTables := by
  intro i s t h
  rcases exec_next_cases h with ⟨-, rfl⟩ | ⟨-, h⟩
  · exact sameTables_of_eq rfl
  · exact runCommand_sameTables h

/-! ### Safety -/

/-- Every length of `PAD_LEN_SET` is positive. -/
theorem pos_of_mem_padLens {n : Nat} (h : padLens.contains n = true) : 0 < n := by
  have all : ∀ m ∈ padLens, 0 < m := by decide
  exact all n (List.contains_iff_mem.mp h)

/-- An active voice of a good running core gives a sample: neither selected table is empty, so every index lies inside
(20_memory.md R203). -/
theorem StateInv.renderActive_next {s : State} (hs : StateInv s) (legal : cfgLegal s.cfg = true) :
    ∃ t, Machine.renderActive s = .next t := by
  have mso : 0 < s.cfg.msoLen := by
    have bounds := msoLen_bounds (msoLen_of_cfgLegal legal)
    omega
  have pad : 0 < (padBank s.program s.program.padSel).len := pos_of_mem_padLens (padBank_len hs.programParts _)
  obtain ⟨g, s', sample⟩ := generateAll_isSome mso pad
  rcases renderActive_cases s with ⟨noSample, -⟩ | ⟨_, _, -, e, -⟩
  · rw [sample] at noSample
    cases noSample
  · exact ⟨_, e⟩

/-- The one command that can fault is RENDER_SAMPLE. -/
theorem StateInv.runCommand_next {s : State} (hs : StateInv s) (legal : cfgLegal s.cfg = true) (c : Command) :
    ∃ t, Machine.runCommand c s = .next t := by
  cases c with
  | renderSample =>
    simp only [Machine.runCommand]
    split
    · exact hs.renderActive_next legal
    · exact ⟨_, rfl⟩
  | nop | write | read | setFrequency | noteOn | noteOff | tickControl | clearFilters | buildPad | illegal => exact ⟨_, rfl⟩

/-- From a good state every instruction has a next state. -/
theorem StateInv.exec_next {s : State} (hs : StateInv s) (i : Instr) : ∃ t, Machine.exec i s = .next t := by
  rw [exec_eq_runCommand]
  cases running : s.voice.halted with
  | true => exact ⟨_, if_pos rfl⟩
  | false =>
    rw [if_neg (by decide)]
    exact hs.runCommand_next (hs.cfgLegal_of_running running) i.command

/-- Settles O54, by the agent of the step: only a core's word could fault. -/
theorem goodStatesAreSafe : Obligations.GoodStatesAreSafe := by
  intro s hs
  unfold Safe step
  split
  · exact ⟨_, rfl⟩
  · split
    · exact ⟨_, rfl⟩
    · split
      · exact ⟨_, rfl⟩
      · next core w rest _ =>
        split
        · exact ⟨_, rfl⟩
        · next u start =>
          obtain ⟨i, e⟩ := execWord_eq_exec w u
          rw [e]
          exact (hs.voiceStart start).exec_next i

end Sys2Proof.Machine
end

section
/-! PROOFS. What a sample reads of the shared state (20_memory.md R204, R209): the bank selects and the selected banks. Another shared
state reaches a RENDER_SAMPLE through the two table readers only; what these read is 45_mso.md R579, R580 and 46_pad.md R613 to
R615. -/

namespace Sys2Proof.Machine

/-! ### Another shared state in place of the one there is -/

/-- The same core with another shared state. -/
def withProgram (p : Program) (s : State) : State := { s with program := p }

@[simp] theorem withProgram_cfg (p : Program) (s : State) : (withProgram p s).cfg = s.cfg := rfl
@[simp] theorem withProgram_voice (p : Program) (s : State) : (withProgram p s).voice = s.voice := rfl
@[simp] theorem withProgram_program (p : Program) (s : State) : (withProgram p s).program = p := rfl
@[simp] theorem withProgram_num (p : Program) (s : State) : (withProgram p s).num = s.num := rfl

/-- The registers of units 0x0 to 0xD are the core's own (20_memory.md R201). -/
theorem regAt_withProgram {k : Nat} (hk : k < 0xE00) (p : Program) (s : State) : regAt (withProgram p s) k = regAt s k := by
  have own : isShared k = false := by simpa [isShared] using hk
  unfold regAt
  rw [own]
  rfl

/-! The registers that a sample reads, by unit `u` and index `i`. -/

theorem regInt_withProgram {u i : Nat} (hu : u ≤ 0xD00) (hi : i < 0x100) (p : Program) (s : State) :
    regInt (withProgram p s) (u + i) = regInt s (u + i) :=
  congrArg BitVec.toInt (regAt_withProgram (by omega) p s)

theorem regNat_withProgram {u i : Nat} (hu : u ≤ 0xD00) (hi : i < 0x100) (p : Program) (s : State) :
    regNat (withProgram p s) (u + i) = regNat s (u + i) :=
  congrArg Int.toNat (regInt_withProgram hu hi p s)

theorem regPct_withProgram {u i : Nat} (hu : u ≤ 0xD00) (hi : i < 0x100) (p : Program) (s : State) :
    regPct (withProgram p s) (u + i) = regPct s (u + i) :=
  congrArg (numPct s.num) (regInt_withProgram hu hi p s)

/-- The register at index 0 of a unit. -/
theorem regPct_unit_withProgram {u : Nat} (hu : u ≤ 0xD00) (p : Program) (s : State) :
    regPct (withProgram p s) u = regPct s u :=
  regPct_withProgram (i := 0) hu (by decide) p s

theorem enabled_withProgram {u : Nat} (hu : u ≤ 0xD00) (p : Program) (s : State) :
    enabled (withProgram p s) u = enabled s u := by
  unfold enabled
  rw [regInt_withProgram hu (by decide)]

/-! ### Generators that read no table -/

theorem layerFreq_withProgram {u : Nat} (hu : u ≤ 0xD00) (p : Program) (s : State) (fsrc : F32) (i : Nat) :
    layerFreq (withProgram p s) u fsrc i = layerFreq s u fsrc i := by
  unfold layerFreq spread
  rw [regNat_withProgram hu (by decide), regPct_withProgram hu (by decide)]
  rfl

theorem advanceOsc_withProgram {u : Nat} (hu : u ≤ 0xD00) (p : Program) (s : State) (fsrc : F32) (o : Osc) :
    advanceOsc (withProgram p s) u fsrc o = advanceOsc s u fsrc o := by
  unfold advanceOsc layerInc
  simp only [regNat_withProgram hu (by decide : rUniMode < 0x100), regNat_withProgram hu (by decide : rWaveform < 0x100),
    layerFreq_withProgram hu, withProgram_cfg, withProgram_num]

/-- The levels of the nine layers stand in the core's own registers (42_oscillator.md R461). -/
theorem stackLevels_withProgram {u : Nat} (hu : u ≤ 0xD00) (p : Program) (s : State) :
    (List.range 9).map (fun i => regPct (withProgram p s) (u + rUniLevel + i))
      = (List.range 9).map fun i => regPct s (u + rUniLevel + i) := by
  refine List.map_congr_left fun i hi => ?_
  have level : rUniLevel + i < 0x100 := by
    have layer : i < 9 := List.mem_range.mp hi
    unfold rUniLevel
    omega
  rw [Nat.add_assoc]
  exact regPct_withProgram hu level p s

theorem stackMix_withProgram {u : Nat} (hu : u ≤ 0xD00) (p : Program) (s : State) (w : Nine F32) :
    stackMix (withProgram p s) u w = stackMix s u w := by
  unfold stackMix
  simp only [regNat_withProgram hu (by decide : rUniMode < 0x100), stackLevels_withProgram hu, withProgram_num]

theorem oscRender_withProgram {u : Nat} (hu : u ≤ 0xD00) (p : Program) (s : State) (fsrc pw : F32) (o : Osc) :
    oscRender (withProgram p s) u fsrc pw o = oscRender s u fsrc pw o := by
  unfold oscRender layerWaves
  simp only [regNat_withProgram hu (by decide : rWaveform < 0x100), regPct_withProgram hu (by decide : rUniDist < 0x100),
    stackMix_withProgram hu, advanceOsc_withProgram hu, withProgram_num]

theorem renderOsc1_withProgram (p : Program) (s : State) :
    renderOsc1 (withProgram p s) = ((renderOsc1 s).1, withProgram p (renderOsc1 s).2) := by
  unfold renderOsc1
  rw [enabled_withProgram (by decide), oscRender_withProgram (by decide)]
  split <;> rfl

theorem hardSync_withProgram (p : Program) (s : State) : hardSync (withProgram p s) = hardSync s := by
  unfold hardSync
  rw [regInt_withProgram (by decide) (by decide)]
  rfl

theorem renderOsc2_withProgram (p : Program) (s : State) :
    renderOsc2 (withProgram p s) = ((renderOsc2 s).1, withProgram p (renderOsc2 s).2) := by
  unfold renderOsc2
  rw [enabled_withProgram (by decide), oscRender_withProgram (by decide), hardSync_withProgram]
  split <;> rfl

theorem renderNoise_withProgram (p : Program) (s : State) :
    renderNoise (withProgram p s) = ((renderNoise s).1, withProgram p (renderNoise s).2) := by
  unfold renderNoise
  rw [enabled_withProgram (by decide), regNat_withProgram (by decide) (by decide)]
  split <;> rfl

/-- The loop gain in use stands in ON_DECAY or OFF_DECAY (44_karplus.md R539). -/
theorem ksRho_withProgram (p : Program) (s : State) : ksRho (withProgram p s) = ksRho s := by
  have decay : (if s.voice.ks.held then uKs + 8 else uKs + 9) < 0xE00 := by split <;> decide
  unfold ksRho regInt
  rw [withProgram_voice, regAt_withProgram decay, regAt_withProgram (by decide)]
  rfl

theorem ksRender_withProgram (p : Program) (s : State) : ksRender (withProgram p s) = ksRender s := by
  unfold ksRender ksDamp
  rw [ksRho_withProgram, regInt_withProgram (by decide) (by decide)]
  rfl

theorem renderKs_withProgram (p : Program) (s : State) :
    renderKs (withProgram p s) = ((renderKs s).1, withProgram p (renderKs s).2) := by
  unfold renderKs
  rw [enabled_withProgram (by decide), ksRender_withProgram]
  split <;> rfl

/-! ### The mixer -/

theorem filtCutoff_withProgram {u : Nat} (hu : u ≤ 0xD00) (p : Program) (s : State) (ffm : F32) :
    filtCutoff (withProgram p s) u ffm = filtCutoff s u ffm := by
  unfold filtCutoff filtBase filtTrack
  rw [regInt_withProgram hu (by decide), regPct_withProgram hu (by decide), regPct_unit_withProgram hu]
  rfl

theorem svfStep_withProgram {u : Nat} (hu : u ≤ 0xD00) (p : Program) (s : State) (ffm x : F32) (f : Filt) :
    svfStep (withProgram p s) u ffm x f = svfStep s u ffm x f := by
  unfold svfStep filtCoeff filtDamp
  rw [regNat_withProgram hu (by decide), regPct_withProgram hu (by decide), filtCutoff_withProgram hu]
  rfl

theorem distStage_withProgram {u : Nat} (hu : u ≤ 0xD00) (p : Program) (s : State) (y : F32) :
    distStage (withProgram p s) u y = distStage s u y := by
  unfold distStage dist distDrive
  simp only [enabled_withProgram hu, regInt_withProgram hu (by decide : 2 < 0x100), regInt_withProgram hu (by decide : 4 < 0x100),
    regPct_withProgram hu (by decide : 1 < 0x100), regPct_withProgram hu (by decide : 3 < 0x100), withProgram_num]

theorem channel1_withProgram (p : Program) (s : State) (x : F32) :
    channel1 (withProgram p s) x = ((channel1 s x).1, withProgram p (channel1 s x).2) := by
  unfold channel1
  simp only [svfStep_withProgram (by decide : uFilt1 ≤ 0xD00), distStage_withProgram (by decide : uDist1 ≤ 0xD00), withProgram_voice]
  rfl

theorem channel2_withProgram (p : Program) (s : State) (x : F32) :
    channel2 (withProgram p s) x = ((channel2 s x).1, withProgram p (channel2 s x).2) := by
  unfold channel2
  simp only [svfStep_withProgram (by decide : uFilt2 ≤ 0xD00), distStage_withProgram (by decide : uDist2 ≤ 0xD00), withProgram_voice]
  rfl

theorem ampOut_withProgram (p : Program) (s : State) (y1 y2 : F32) : ampOut (withProgram p s) y1 y2 = ampOut s y1 y2 := by
  unfold ampOut
  rw [regPct_unit_withProgram (by decide), regPct_withProgram (by decide) (by decide)]
  rfl

theorem busSum_withProgram {r : Nat} (hr : r < 0x100) (p : Program) (s : State) (g : Gens) (pad : F32) :
    busSum (withProgram p s) r g pad = busSum s r g pad := by
  unfold busSum
  simp only [regPct_withProgram (by decide : uOsc1 ≤ 0xD00) hr, regPct_withProgram (by decide : uOsc2 ≤ 0xD00) hr,
    regPct_withProgram (by decide : uNoise ≤ 0xD00) hr, regPct_withProgram (by decide : uKs ≤ 0xD00) hr,
    regPct_withProgram (by decide : uMso ≤ 0xD00) hr, regPct_withProgram (by decide : uPad ≤ 0xD00) hr, withProgram_num]

/-- The mixer reads nothing of the shared state. -/
theorem mixOut_withProgram (p : Program) (s : State) (g : Gens) :
    mixOut (withProgram p s) g = ((mixOut s g).1, withProgram p (mixOut s g).2) := by
  unfold mixOut
  simp only [busSum_withProgram (by decide : rSend1 < 0x100), busSum_withProgram (by decide : rSend2 < 0x100),
    channel1_withProgram, channel2_withProgram, ampOut_withProgram]

theorem finishSample_withProgram (lr : F32 × F32) (p : Program) (s : State) :
    finishSample lr (withProgram p s) = withProgram p (finishSample lr s) := by
  unfold finishSample
  split <;> rfl

/-! ### The table readers -/

/-- The MSO reader reads the bank it is given (45_mso.md R580). -/
theorem renderMso_withProgram {p : Program} {s : State} {b : Bool} (bank : msoBank p b = msoBank s.program b) :
    renderMso b (withProgram p s) = (renderMso b s).map fun r => (r.1, withProgram p r.2) := by
  have index : msoIndex (withProgram p s) = msoIndex s := rfl
  unfold renderMso
  simp only [enabled_withProgram (by decide : uMso ≤ 0xD00), withProgram_program, bank, index, withProgram_num, withProgram_cfg,
    withProgram_voice]
  split
  · split <;> rfl
  · rfl

/-- The PAD reader reads the bank it is given (46_pad.md R615). -/
theorem renderPad_withProgram {p : Program} {s : State} {b : Bool} (bank : padBank p b = padBank s.program b) :
    renderPad b (withProgram p s) = (renderPad b s).map fun r => (r.1, r.2.1, withProgram p r.2.2) := by
  unfold renderPad
  simp only [enabled_withProgram (by decide : uPad ≤ 0xD00), withProgram_program, bank, withProgram_num, withProgram_voice]
  split
  · split <;> rfl
  · rfl

/-! ### The sample -/

/-- The state that the generators without a table leave to the table readers. -/
def beforeReaders (s : State) : State := (renderKs (renderNoise (renderOsc2 (renderOsc1 s).2).2).2).2

/-- Before the table readers only the oscillators, the noise generator and the string have moved. -/
theorem beforeReaders_state (s : State) :
    ∃ o1 o2 n k, beforeReaders s = { s with voice := { s.voice with osc1 := o1, osc2 := o2, noise := n, ks := k } } := by
  obtain ⟨o1, e1⟩ := renderOsc1_state s
  obtain ⟨o2, e2⟩ := renderOsc2_state (renderOsc1 s).2
  obtain ⟨n, e3⟩ := renderNoise_state (renderOsc2 (renderOsc1 s).2).2
  obtain ⟨k, e4⟩ := renderKs_state (renderNoise (renderOsc2 (renderOsc1 s).2).2).2
  refine ⟨o1, o2, n, k, ?_⟩
  unfold beforeReaders
  rw [e4, e3, e2, e1]

theorem beforeReaders_withProgram (p : Program) (s : State) :
    beforeReaders (withProgram p s) = withProgram p (beforeReaders s) := by
  unfold beforeReaders
  simp only [renderOsc1_withProgram, renderOsc2_withProgram, renderNoise_withProgram, renderKs_withProgram]

/-- The samples of the generators without a table, beside those of the table readers. -/
def gensOf (s : State) (m : F32 × State) (p : F32 × F32 × State) : Gens :=
  ⟨(renderOsc1 s).1, (renderOsc2 (renderOsc1 s).2).1, (renderNoise (renderOsc2 (renderOsc1 s).2).2).1,
    (renderKs (renderNoise (renderOsc2 (renderOsc1 s).2).2).2).1, m.1, p.1, p.2.1⟩

theorem generateAll_eq_bind (s : State) :
    generateAll s = (renderMso s.program.msoSel (beforeReaders s)).bind fun m =>
      (renderPad s.program.padSel m.2).map fun p => (gensOf s m p, p.2.2) := by
  unfold generateAll beforeReaders
  simp only
  cases renderMso s.program.msoSel (renderKs (renderNoise (renderOsc2 (renderOsc1 s).2).2).2).2 with
  | none => rfl
  | some m =>
    simp only [Option.bind_some]
    cases renderPad s.program.padSel m.2 <;> rfl

theorem gensOf_withProgram (p : Program) (s : State) (m : F32 × State) (r : F32 × F32 × State) :
    gensOf (withProgram p s) (m.1, withProgram p m.2) (r.1, r.2.1, withProgram p r.2.2) = gensOf s m r := by
  unfold gensOf
  simp only [renderOsc1_withProgram, renderOsc2_withProgram, renderNoise_withProgram, renderKs_withProgram]

/-- A shared state with the same bank selects and selected banks gives the generators' samples, and stays in place. -/
theorem generateAll_withProgram {p : Program} {s : State} (padSel : p.padSel = s.program.padSel)
    (msoSel : p.msoSel = s.program.msoSel) (pad : padBank p p.padSel = padBank s.program s.program.padSel)
    (mso : msoBank p p.msoSel = msoBank s.program s.program.msoSel) :
    generateAll (withProgram p s) = (generateAll s).map fun r => (r.1, withProgram p r.2) := by
  obtain ⟨_, _, _, _, before⟩ := beforeReaders_state s
  have beforeProgram : (beforeReaders s).program = s.program := by rw [before]
  rw [padSel] at pad
  rw [msoSel] at mso
  rw [generateAll_eq_bind, generateAll_eq_bind, beforeReaders_withProgram, withProgram_program, padSel, msoSel,
    renderMso_withProgram (by rw [beforeProgram]; exact mso)]
  cases hm : renderMso s.program.msoSel (beforeReaders s) with
  | none => rfl
  | some m =>
    have mProgram : m.2.program = s.program := (onlyRendered_program (renderMso_only hm)).trans beforeProgram
    simp only [Option.map_some, Option.bind_some]
    rw [renderPad_withProgram (by rw [mProgram]; exact pad)]
    cases renderPad s.program.padSel m.2 with
    | none => rfl
    | some r => simp only [Option.map_some, gensOf_withProgram]

/-- An active voice's pair is that of its generators. -/
theorem renderActive_withProgram {p : Program} {s : State}
    (generators : generateAll (withProgram p s) = (generateAll s).map fun r => (r.1, withProgram p r.2)) :
    audioOf (renderActive (withProgram p s)) = audioOf (renderActive s) := by
  unfold renderActive
  rw [generators]
  cases generateAll s with
  | none => rfl
  | some r =>
    simp only [Option.map_some, mixOut_withProgram, finishSample_withProgram]
    rfl

theorem exec_renderSample (s : State) : exec .renderSample s = execRenderSample s := rfl

/-- Halted and inactive cores emit silence, whatever the shared state is (40_voice.md R300, R330). -/
theorem renderSample_withProgram {p : Program} {s : State} (padSel : p.padSel = s.program.padSel)
    (msoSel : p.msoSel = s.program.msoSel) (pad : padBank p p.padSel = padBank s.program s.program.padSel)
    (mso : msoBank p p.msoSel = msoBank s.program s.program.msoSel) :
    audioOf (exec .renderSample (withProgram p s)) = audioOf (exec .renderSample s) := by
  rw [exec_renderSample, exec_renderSample]
  unfold execRenderSample
  rw [withProgram_voice]
  split
  · rfl
  · split
    · exact renderActive_withProgram (generateAll_withProgram padSel msoSel pad mso)
    · rfl

/-! ### What the table readers read -/

/-- A table read that gives a value gives the element at an index inside the table (20_memory.md R203). -/
theorem eq_of_tableRead {d : Nat → F32} {t : List (Nat × F32)} {len i : Nat} {x : F32} (h : tableRead d t len i = some x) :
    i < len ∧ x = storeGet d t i := by
  rcases tableRead_cases d t len i with ⟨inside, e⟩ | ⟨-, e⟩ <;> rw [h] at e <;> cases e
  exact ⟨inside, rfl⟩

/-- An enabled MSO reader gives the element at its index and moves one increment on (45_mso.md R580). -/
theorem renderMso_of_enabled {b : Bool} {s : State} {r : F32 × State} (h : renderMso b s = some r) (on : enabled s uMso = true) :
    msoIndex s < s.cfg.msoLen
    ∧ r.1 = s.num.mul (storeGet (msoBaseElem s.num s.cfg.msoLen) (msoBank s.program b) (msoIndex s)) s.voice.lat.ampMso
    ∧ r.2 = { s with voice := { s.voice with msoIdx := msoAdvance s } } := by
  unfold renderMso at h
  rw [if_pos on] at h
  split at h
  · next x read =>
    cases h
    obtain ⟨inside, rfl⟩ := eq_of_tableRead read
    exact ⟨inside, rfl, rfl⟩
  · cases h

/-- The two elements that a tap reads, weighted by the fraction of its position (46_pad.md R613). -/
def padTapValue (N : Num) (b : PadBank) (z : F32) : F32 :=
  let i := (numFloor N z % (b.len : Int)).toNat
  let fr := N.sub z (fFloor z)
  N.add (N.mul (N.sub (fOfInt 1) fr) (storeGet (fun _ => 0) b.elems i))
    (N.mul fr (storeGet (fun _ => 0) b.elems ((i + 1) % b.len)))

/-- A tap that gives a value reads a table that is not empty. -/
theorem eq_of_padTap {N : Num} {b : PadBank} {z x : F32} (h : padTap N b z = some x) : 0 < b.len ∧ x = padTapValue N b z := by
  unfold padTap at h
  simp only at h
  split at h
  · next first second =>
    cases h
    obtain ⟨inside, rfl⟩ := eq_of_tableRead first
    obtain ⟨-, rfl⟩ := eq_of_tableRead second
    exact ⟨Nat.zero_lt_of_lt inside, rfl⟩
  · cases h

/-- An enabled PAD reader gives two taps half a table apart and moves one increment on (46_pad.md R613 to R615). -/
theorem renderPad_of_enabled {b : Bool} {s : State} {r : F32 × F32 × State} (h : renderPad b s = some r)
    (on : enabled s uPad = true) :
    let bank := padBank s.program b
    let z := padRescale s.num s.voice bank.len
    0 < bank.len
    ∧ r.1 = s.num.mul (padTapValue s.num bank z) s.voice.lat.ampPad
    ∧ r.2.1 = s.num.mul (padTapValue s.num bank (padHalfOn s.num bank.len z)) s.voice.lat.ampPad
    ∧ r.2.2 = { s with voice := { s.voice with padPos := padAdvance s.num bank s.voice.lat.fPad z, padLenSeen := bank.len } } := by
  unfold renderPad at h
  simp only [if_pos on] at h
  split at h
  · next tapA tapB =>
    cases h
    obtain ⟨nonempty, rfl⟩ := eq_of_padTap tapA
    obtain ⟨-, rfl⟩ := eq_of_padTap tapB
    exact ⟨nonempty, rfl, rfl, rfl⟩
  · cases h

/-- The MSO reader of a sample starts from the state before it: its registers, its latched values and its position. -/
theorem generateAll_mso {s s' : State} {g : Gens} (h : generateAll s = some (g, s')) (on : regAt s uMso = 1) :
    msoIndex s < s.cfg.msoLen
    ∧ g.mso = s.num.mul (storeGet (msoBaseElem s.num s.cfg.msoLen) (msoBank s.program s.program.msoSel) (msoIndex s))
        s.voice.lat.ampMso
    ∧ s'.voice.msoIdx = msoAdvance s := by
  obtain ⟨_, _, _, _, before⟩ := beforeReaders_state s
  obtain ⟨m, p, hm, hp, rfl, rfl⟩ := generateAll_cases h
  change renderMso s.program.msoSel (beforeReaders s) = some m at hm
  obtain ⟨_, _, afterPad⟩ := renderPad_state hp
  rw [before] at hm
  obtain ⟨inside, sample, moved⟩ := renderMso_of_enabled hm ((enabled_iff _ _).mpr on)
  refine ⟨inside, sample, ?_⟩
  rw [afterPad, moved]
  rfl

/-- The PAD reader of a sample starts from the state before it: its registers, its latched values and its position. -/
theorem generateAll_pad {s s' : State} {g : Gens} (h : generateAll s = some (g, s')) (on : regAt s uPad = 1) :
    let bank := padBank s.program s.program.padSel
    let z := padRescale s.num s.voice bank.len
    0 < bank.len
    ∧ g.padA = s.num.mul (padTapValue s.num bank z) s.voice.lat.ampPad
    ∧ g.padB = s.num.mul (padTapValue s.num bank (padHalfOn s.num bank.len z)) s.voice.lat.ampPad
    ∧ s'.voice.padPos = padAdvance s.num bank s.voice.lat.fPad z ∧ s'.voice.padLenSeen = bank.len := by
  obtain ⟨_, _, _, _, before⟩ := beforeReaders_state s
  obtain ⟨m, p, hm, hp, rfl, rfl⟩ := generateAll_cases h
  change renderMso s.program.msoSel (beforeReaders s) = some m at hm
  obtain ⟨_, afterMso⟩ := renderMso_state hm
  rw [afterMso, before] at hp
  obtain ⟨nonempty, tapA, tapB, moved⟩ := renderPad_of_enabled hp ((enabled_iff _ _).mpr on)
  refine ⟨nonempty, tapA, tapB, ?_, ?_⟩ <;> rw [moved]
  rfl

/-- Settles O46: the shared state reaches a sample through the readers only, and what each reader reads. -/
theorem samplesReadTheSelectedBanks : Obligations.SamplesReadTheSelectedBanks := by
  refine ⟨fun s p padSel msoSel pad mso => renderSample_withProgram padSel msoSel pad mso, ?_, ?_⟩
  · intro s s' g h on
    exact generateAll_mso h on
  · intro s s' g h on
    exact generateAll_pad h on

end Sys2Proof.Machine
end

section
/-! PROOFS. A word is exactly one command or has a reserved-zero bit set, and a command is exactly one well-formed instruction
(30_encoding.md R251 to R259): decoding and encoding undo each other, and the words that are no command are turned away. -/

namespace Sys2Proof

open Machine Laws

/-! ### From an instruction to its command and back -/

/-- A well-formed instruction is the row of its command: each register row stands at its own address, and `writeParam` and
`readParam` stand where there is no row (log 15). -/
theorem rowOf_command (i : Instr) : RowFound.Statement i := by
  cases i with
  | writeParam a v => exact RowFound.writeParam a v
  | readParam a => exact RowFound.readParam a
  | _ => exact fun _ => rfl

/-- An address is its unit PADDR[11:8] and its index PADDR[7:0] (30_encoding.md R255). -/
theorem paddr_eq_unit_index (a : PAddr) : a = BitVec.ofNat 12 (256 * (a.toNat / 256) + a.toNat % 256) := by
  rw [Nat.div_add_mod, BitVec.ofNat_toNat, BitVec.setWidth_eq]

/-- The WRITE row at an address is the write to that address, in every unit. -/
theorem writeRow_some {a : PAddr} {v : RegVal} {i : Instr} (h : writeRow a v = some i) :
    i.wf = true ∧ i.command = .write a v := by
  rw [paddr_eq_unit_index a]
  unfold writeRow at h
  generalize a.toNat % 256 = k at h ⊢
  generalize a.toNat / 256 = u at h ⊢
  split at h
  case h_17 => cases h
  all_goals
    delta writeRowsVoice writeRowsOsc1 writeRowsOsc2 writeRowsNoise writeRowsKs writeRowsMso writeRowsPad writeRowsFilt1
      writeRowsFilt2 writeRowsDist1 writeRowsDist2 writeRowsAmp writeRowsLfo writeRowsAdsr writeRowsPadb writeRowsMsob at h
    split at h <;> cases h <;> exact ⟨rfl, rfl⟩

/-- The READ row at an address is the read of that address, in every unit. -/
theorem readRow_some {a : PAddr} {i : Instr} (h : readRow a = some i) : i.wf = true ∧ i.command = .read a := by
  rw [paddr_eq_unit_index a]
  unfold readRow at h
  generalize a.toNat % 256 = k at h ⊢
  generalize a.toNat / 256 = u at h ⊢
  split at h
  case h_17 => cases h
  all_goals
    delta readRowsVoice readRowsOsc1 readRowsOsc2 readRowsNoise readRowsKs readRowsMso readRowsPad readRowsFilt1 readRowsFilt2
      readRowsDist1 readRowsDist2 readRowsAmp readRowsLfo readRowsAdsr readRowsPadb readRowsMsob at h
    split at h <;> cases h <;> exact ⟨rfl, rfl⟩

/-- A WRITE_PARAM word decodes to the well-formed instruction that is this write. -/
theorem decodeWrite_spec (a : PAddr) (v : RegVal) : (decodeWrite a v).wf = true ∧ (decodeWrite a v).command = .write a v := by
  have row := writeRow_isSome_iff a v
  unfold decodeWrite
  cases h : writeRow a v with
  | some i => exact writeRow_some h
  | none =>
    rw [h] at row
    exact ⟨congrArg not row.symm, rfl⟩

/-- A READ_PARAM word decodes to the well-formed instruction that is this read. -/
theorem decodeRead_spec (a : PAddr) : (decodeRead a).wf = true ∧ (decodeRead a).command = .read a := by
  have row := readRow_isSome_iff a
  unfold decodeRead
  cases h : readRow a with
  | some i => exact readRow_some h
  | none =>
    rw [h] at row
    exact ⟨congrArg not row.symm, rfl⟩

/-- Every command has a row: a well-formed instruction that stands for it. -/
theorem command_rowOf (c : Command) : (RowFound.rowOf c).wf = true ∧ (RowFound.rowOf c).command = c := by
  cases c with
  | write a v => exact decodeWrite_spec a v
  | read a => exact decodeRead_spec a
  | illegal k x => fin_cases k <;> exact ⟨rfl, rfl⟩
  | _ => exact ⟨rfl, rfl⟩

/-! ### From a command to its word and back -/

/-- The word of a command decodes to the command's row. -/
theorem decode_word (c : Command) : decode c.word = .ok (RowFound.rowOf c) := by
  cases c with
  | write a v => exact decode_write a v
  | read a => exact decode_read a
  | setFrequency mhz => exact decode_setFrequency mhz
  | illegal k x => fin_cases k <;> exact decode_illegal _ x
  | _ => rfl

/-- A reserved-zero bit of the word's format is set: bits 27..0 in format Z, bits 15..0 in format R (30_encoding.md R251, R259). -/
def reservedBitSet (w : Word) : Prop :=
  ((w.extractLsb' 28 4).toNat ∈ [0, 4, 5, 6, 7, 8, 9] ∧ w.extractLsb' 0 28 ≠ 0)
  ∨ ((w.extractLsb' 28 4).toNat = 2 ∧ w.extractLsb' 0 16 ≠ 0)

/-- The decoder refuses a word with a reserved-zero bit set. -/
theorem decode_of_reservedBitSet {w : Word} (h : reservedBitSet w) :
    decode w = .error (.reservedBits (w.extractLsb' 28 4)) := by
  unfold decode
  rcases h with ⟨formatZ, set⟩ | ⟨formatR, set⟩
  · simp only [List.mem_cons, List.not_mem_nil, or_false] at formatZ
    rcases formatZ with h | h | h | h | h | h | h <;> rw [h] <;> exact if_neg set
  · rw [formatR]
    exact if_neg set

/-- A word is its opcode before its other 28 bits. -/
theorem append_eq_word {w : Word} {o : BitVec 4} {x : BitVec 28} (opc : (w.extractLsb' 28 4).toNat = o.toNat)
    (rest : w.extractLsb' 0 28 = x) : o ++ x = w := by
  rw [← BitVec.eq_of_toNat_eq opc, ← rest]
  rw [BitVec.extractLsb'_append_extractLsb'_eq_extractLsb' (by decide), BitVec.extractLsb'_eq_self]

/-- A word of format W or R is its opcode, its address and its operand. -/
theorem append3_eq_word {w : Word} {o : BitVec 4} {v : RegVal} (opc : (w.extractLsb' 28 4).toNat = o.toNat)
    (operand : w.extractLsb' 0 16 = v) : o ++ w.extractLsb' 16 12 ++ v = w := by
  rw [← BitVec.eq_of_toNat_eq opc, ← operand]
  rw [BitVec.extractLsb'_append_extractLsb'_eq_extractLsb' (by decide),
    BitVec.extractLsb'_append_extractLsb'_eq_extractLsb' (by decide), BitVec.extractLsb'_eq_self]

/-- A word with every reserved-zero bit clear is the word of a command: one command for each opcode (30_encoding.md R252). -/
theorem exists_word_eq {w : Word} (clear : ¬reservedBitSet w) : ∃ c : Command, c.word = w := by
  have zero28 (formatZ : (w.extractLsb' 28 4).toNat ∈ [0, 4, 5, 6, 7, 8, 9]) : w.extractLsb' 0 28 = 0 :=
    by_contra fun set => clear (.inl ⟨formatZ, set⟩)
  have zero16 (formatR : (w.extractLsb' 28 4).toNat = 2) : w.extractLsb' 0 16 = 0 :=
    by_contra fun set => clear (.inr ⟨formatR, set⟩)
  have bound : (w.extractLsb' 28 4).toNat < 16 := (w.extractLsb' 28 4).isLt
  match opc : (w.extractLsb' 28 4).toNat with
  | 0x0 => exact ⟨.nop, append_eq_word opc (zero28 (by simp [opc]))⟩
  | 0x1 => exact ⟨.write _ _, append3_eq_word opc rfl⟩
  | 0x2 => exact ⟨.read _, append3_eq_word opc (zero16 opc)⟩
  | 0x3 => exact ⟨.setFrequency _, append_eq_word opc rfl⟩
  | 0x4 => exact ⟨.noteOn, append_eq_word opc (zero28 (by simp [opc]))⟩
  | 0x5 => exact ⟨.noteOff, append_eq_word opc (zero28 (by simp [opc]))⟩
  | 0x6 => exact ⟨.tickControl, append_eq_word opc (zero28 (by simp [opc]))⟩
  | 0x7 => exact ⟨.renderSample, append_eq_word opc (zero28 (by simp [opc]))⟩
  | 0x8 => exact ⟨.clearFilters, append_eq_word opc (zero28 (by simp [opc]))⟩
  | 0x9 => exact ⟨.buildPad, append_eq_word opc (zero28 (by simp [opc]))⟩
  | 0xA => exact ⟨.illegal 0 _, append_eq_word opc rfl⟩
  | 0xB => exact ⟨.illegal 1 _, append_eq_word opc rfl⟩
  | 0xC => exact ⟨.illegal 2 _, append_eq_word opc rfl⟩
  | 0xD => exact ⟨.illegal 3 _, append_eq_word opc rfl⟩
  | 0xE => exact ⟨.illegal 4 _, append_eq_word opc rfl⟩
  | 0xF => exact ⟨.illegal 5 _, append_eq_word opc rfl⟩
  | n + 16 => omega

/-- The words that decode are the words of the commands, each decoding to its command's row. -/
theorem decode_eq_ok_iff {w : Word} {i : Instr} : decode w = .ok i ↔ ∃ c : Command, c.word = w ∧ RowFound.rowOf c = i := by
  constructor
  · intro ok
    have clear : ¬reservedBitSet w := fun set => by
      rw [decode_of_reservedBitSet set] at ok
      cases ok
    obtain ⟨c, rfl⟩ := exists_word_eq clear
    rw [decode_word] at ok
    exact ⟨c, rfl, Except.ok.inj ok⟩
  · rintro ⟨c, rfl, rfl⟩
    exact decode_word c

/-- Settles O1: a well-formed instruction is the row of its command, and the command's word decodes to that row. -/
theorem decodeOfEncode : Obligations.DecodeOfEncode := by
  intro i wf
  rw [encode, decode_word, rowOf_command i wf]

/-- Settles O2: a word that decodes is a command's word, and the row it decodes to stands for that command. -/
theorem encodeOfDecode : Obligations.EncodeOfDecode := by
  intro w i ok
  obtain ⟨c, rfl, rfl⟩ := decode_eq_ok_iff.mp ok
  obtain ⟨wf, command⟩ := command_rowOf c
  exact ⟨wf, congrArg Command.word command⟩

/-! ### Illegal words -/

/-- The reserved opcodes 0xA to 0xF are those of the illegal commands (30_encoding.md R252, R259). -/
theorem ten_le_opcode_iff (c : Command) :
    10 ≤ (c.word.extractLsb' 28 4).toNat ↔ ∃ k x, c = .illegal k x := by
  cases c with
  | illegal k x =>
    rw [illegal_opc]
    have reserved : 10 ≤ (BitVec.ofNat 4 (10 + k.val)).toNat := by revert k; decide
    exact iff_of_true reserved ⟨k, x, rfl⟩
  | write a v => simp [Command.word, field3_high]
  | read a => simp [Command.word, field3_high]
  | setFrequency mhz => simp [Command.word, field_high]
  | _ => simp [Command.word]

/-- On a core that is not halted an illegal word raises `STATUS.CMD_RESERVED`, answers ERR_CMD and does nothing else
(30_encoding.md R259). -/
theorem illegalWord_of_running {s : State} (running : s.voice.halted = false) : illegalWord s = turnedAway s 0x01 := by
  unfold illegalWord unlessHalted
  rw [running]
  rfl

/-- Settles O5: each of the six is the command `illegal`, which is turned away. -/
theorem reservedOpcodesComplete : Obligations.ReservedOpcodesComplete := by
  intro i opc x s command running
  rw [exec_eq_runCommand, running, command]
  rfl

/-- Settles O4: a word with a reserved-zero bit set is refused by the decoder, one with a reserved opcode is an illegal command's,
and every other word is a command's that is not illegal. -/
theorem illegalWordsAreTurnedAway : Obligations.IllegalWordsAreTurnedAway := by
  intro w
  dsimp only
  by_cases set : reservedBitSet w
  · refine ⟨fun _ s running => ?_, fun legal => absurd (.inr set) legal⟩
    rw [execWord, decode_of_reservedBitSet set]
    exact illegalWord_of_running running
  · obtain ⟨c, rfl⟩ := exists_word_eq set
    obtain ⟨-, command⟩ := command_rowOf c
    constructor
    · intro illegal s running
      obtain ⟨k, x, rfl⟩ := (ten_le_opcode_iff c).mp (illegal.resolve_right set)
      rw [execWord, decode_word]
      exact reservedOpcodesComplete _ k x s command running
    · intro legal
      refine ⟨_, decode_word c, fun k x isIllegal => legal (.inl ?_)⟩
      exact (ten_le_opcode_iff c).mpr ⟨k, x, command.symm.trans isIllegal⟩

/-! ### The examples of the spec -/

/-- Settles O3: the assembler is run on each line, and each word is that of the command whose fields it shows. -/
theorem encodingExamplesDecode : Obligations.EncodingExamplesDecode :=
  ⟨⟨by decide, decode_word .nop⟩,
   ⟨by decide, decode_word (.write 0x100 1)⟩,
   ⟨by decide, (decode_word (.write 0x103 0xFFFF)).trans (by decide)⟩,
   ⟨by decide, decode_word (.write 0xC21 75)⟩,
   ⟨by decide, decode_word (.read 0xD08)⟩,
   ⟨by decide, decode_word (.setFrequency 440000)⟩,
   ⟨by decide, decode_word .noteOn⟩,
   ⟨by decide, decode_word .noteOff⟩,
   ⟨by decide, decode_word .tickControl⟩,
   ⟨by decide, decode_word .renderSample⟩,
   ⟨by decide, decode_word .clearFilters⟩,
   ⟨by decide, decode_word .buildPad⟩,
   decode_of_reservedBitSet (w := 0x40000001) (.inl (by decide))⟩

end Sys2Proof
end

section
/-! PROOFS. Voice commands that do not touch the datapath's formulas (40_voice.md R300, R301, R304, R309, R310, R330), the step that
runs a decoded word, and the life cycle of a voice over all commands (R335). -/

namespace Sys2Proof.Machine

open Laws

/-! ### From an instruction to what its command does -/

/-- On a core that is not halted an instruction is its command. -/
theorem exec_of_running {s : State} (running : s.voice.halted = false) (i : Instr) : exec i s = runCommand i.command s := by
  rw [exec_eq_runCommand, running, if_neg (by decide)]

/-- An instruction is known by its command alone. -/
theorem exec_congr_command {i j : Instr} (h : i.command = j.command) (s : State) : exec i s = exec j s := by
  rw [exec_eq_runCommand, exec_eq_runCommand, h]

/-- Settles O9: a row and `writeParam` or `readParam` of its address stand for one command. -/
theorem rowsRunTheirCommand : Obligations.RowsRunTheirCommand :=
  fun _ s _ _ => ⟨fun h => exec_congr_command h s, fun h => exec_congr_command h s⟩

/-- The step of a core's own word takes the word from its port and counts the builder down. -/
theorem voiceStart_self (s : State) (rest : List (Nat × Word)) :
    voiceStart s s.voice.core rest = some { s with port := rest, program := builderCountdown s.program } := by
  unfold voiceStart focus
  rw [if_pos rfl]

/-- Settles O6: with no swap due the step looks at the port, whose head is the current core's own word. -/
theorem stepRunsTheDecodedInstruction : Obligations.StepRunsTheDecodedInstruction := by
  intro s w i rest noPad noMso port decoded
  have word (t : State) : execWord w t = exec i t := by rw [execWord, decoded]
  unfold step
  rw [noPad, if_neg (by decide), noMso, if_neg (by decide), port]
  simp only [voiceStart_self, word]

/-! ### Commands with a short answer -/

/-- A word of opcode 0 with no other bit set is the word 0. -/
theorem operand_ne_zero_of_ne_zero {w : Word} (opc : w.extractLsb' 28 4 = 0) (ne : w ≠ 0) : w.extractLsb' 0 28 ≠ 0 := by
  intro rest
  have zero : (0 : BitVec 4) ++ (0 : BitVec 28) = w := append_eq_word (congrArg BitVec.toNat opc) rest
  exact ne (zero.symm.trans (by decide))

/-- Settles O11: NOP answers OK; another word of opcode 0 has a reserved-zero bit set. -/
theorem nopAnswersOk : Obligations.NopAnswersOk := by
  intro s running
  refine ⟨decode_word .nop, exec_of_running running _, by decide, fun w opc ne => ?_⟩
  have format : (w.extractLsb' 28 4).toNat ∈ [0, 4, 5, 6, 7, 8, 9] := by simp [opc]
  exact (illegalWordsAreTurnedAway w).1 (.inr (.inl ⟨format, operand_ne_zero_of_ne_zero opc ne⟩)) s running

/-- Settles O14: STATUS is the one register that a write of 1 clears. -/
theorem statusWriteClearsBits : Obligations.StatusWriteClearsBits := by
  intro i v s running command
  rw [exec_of_running running, command]
  exact congrArg Host.Outcome.next (writeParam_of_w1c (r := ⟨.range 0 31, 0, .w1c, .none⟩) rfl rfl v)

/-- Settles O31: without an active voice no generator runs. -/
theorem inactiveVoiceIsSilent : Obligations.InactiveVoiceIsSilent := by
  intro s running inactive
  have silent : ¬(s.voice.active = true) := by simp [inactive]
  exact (exec_of_running running _).trans (if_neg silent)

/-- Settles O38: the command clears both filters. -/
theorem clearFiltersClears : Obligations.ClearFiltersClears :=
  fun _ running => ⟨decode_word .clearFilters, exec_of_running running _⟩

/-- Settles O39: a busy builder notes the request, an idle one starts from the registers. -/
theorem buildPadRequestsABuild : Obligations.BuildPadRequestsABuild := by
  intro s running
  have request : exec .buildPad s = .next (respond (padRequest s) .ok 0) := exec_of_running running _
  constructor
  · intro busy
    rw [request, padRequest_of_busy busy]
    rfl
  · intro idle
    refine ⟨Config.buildLatency s.program.builds, ?_⟩
    rw [request, padRequest_of_idle idle]
    rfl

/-! ### SET_FREQUENCY -/

theorem ratioLe_iff {x y : Ratio} : ratioLe x y = true ↔ x.num * y.den ≤ y.num * x.den := decide_eq_true_iff

theorem ratioClamp_of_between {x lo hi : Ratio} (above : ratioLe lo x = true) (below : ratioLe x hi = true) :
    ratioClamp x lo hi = x := by
  simp [ratioClamp, above, below]

theorem ratioClamp_of_below {x lo hi : Ratio} (below : ¬ratioLe lo x = true) (order : ratioLe lo hi = true) :
    ratioClamp x lo hi = lo := by
  simp [ratioClamp, below, order]

theorem ratioClamp_of_above {x lo hi : Ratio} (low : ratioLe lo x = true) (above : ¬ratioLe x hi = true) :
    ratioClamp x lo hi = hi := by
  simp [ratioClamp, low, above]

/-- The order of three rationals with positive denominators is transitive. -/
theorem ratioLe_of_lt_of_lt {x y z : Ratio} (hx : 0 < x.den) (hy : 0 < y.den) (hz : 0 < z.den)
    (xy : x.num * y.den < y.num * x.den) (yz : y.num * z.den < z.num * y.den) : ratioLe x z = true := by
  rw [ratioLe_iff]
  have left : x.num * y.den * z.den < y.num * x.den * z.den := Int.mul_lt_mul_of_pos_right xy (by exact_mod_cast hz)
  have right : y.num * z.den * x.den < z.num * y.den * x.den := Int.mul_lt_mul_of_pos_right yz (by exact_mod_cast hx)
  have both : x.num * z.den * y.den < z.num * x.den * y.den := by
    calc x.num * z.den * y.den = x.num * y.den * z.den := by ring
      _ < y.num * x.den * z.den := left
      _ = y.num * z.den * x.den := by ring
      _ < z.num * y.den * x.den := right
      _ = z.num * x.den * y.den := by ring
  exact le_of_lt (lt_of_mul_lt_mul_right both (by positivity))

/-- SET_FREQUENCY answers OK exactly when the clamp left the request as it was (40_voice.md R304). -/
theorem exec_setFrequency {s : State} {mhz : BitVec 28} {g : Ratio} (running : s.voice.halted = false)
    (clamped : ratioClamp (freqReq mhz) s.cfg.oscMin s.cfg.oscMax = g) :
    exec (.setFrequency mhz) s = .next (respond { s with voice := { s.voice with voiceFreq := s.num.ofRatio g } }
      (if g = freqReq mhz then .ok else .okClamped) 0) := by
  subst clamped
  exact exec_of_running running _

/-- Settles O22, by where the request lies: the bounds of a legal configuration are in order, so it cannot lie beyond both. -/
theorem setFrequencyClamps : Obligations.SetFrequencyClamps := by
  intro s mhz running legal
  simp only [cfgLegal, Bool.and_eq_true, decide_eq_true_eq] at legal
  obtain ⟨⟨⟨⟨⟨-, minDen⟩, maxDen⟩, -⟩, -⟩, order⟩ := legal
  dsimp only
  refine ⟨fun below => ?_, fun above => ?_, fun notBelow notAbove => ?_⟩
  · have under : ¬ratioLe s.cfg.oscMin (freqReq mhz) = true := by rw [ratioLe_iff]; exact not_le.mpr below
    have ne : s.cfg.oscMin ≠ freqReq mhz := fun e => under (by rw [← e, ratioLe_iff])
    rw [exec_setFrequency running (ratioClamp_of_below under (ratioLe_iff.mpr order.le)), if_neg ne]
    rfl
  · have beyond : ¬ratioLe (freqReq mhz) s.cfg.oscMax = true := by rw [ratioLe_iff]; exact not_le.mpr above
    have ne : s.cfg.oscMax ≠ freqReq mhz := fun e => beyond (by rw [← e, ratioLe_iff])
    have low : ratioLe s.cfg.oscMin (freqReq mhz) = true :=
      ratioLe_of_lt_of_lt (Nat.pos_of_ne_zero minDen) (Nat.pos_of_ne_zero maxDen) (by decide : 0 < 1000) order above
    rw [exec_setFrequency running (ratioClamp_of_above low beyond), if_neg ne]
    rfl
  · rw [exec_setFrequency running (ratioClamp_of_between (ratioLe_iff.mpr notBelow) (ratioLe_iff.mpr notAbove)), if_pos rfl]
    rfl

/-! ### The life cycle -/

/-- The three flags of a voice's life cycle: `in_use`, `active`, `waits` (40_voice.md R335). -/
def lifeFlags (s : State) : Bool × Bool × Bool := (s.voice.inUse, s.voice.active, s.voice.waits)

theorem lifeFlags_congr {s t : State} (h : t.voice = s.voice) : lifeFlags t = lifeFlags s := by
  unfold lifeFlags
  rw [h]

theorem lifeFlags_of_rendered {s t : State} (h : onlyRendered s t) : lifeFlags t = lifeFlags s := by
  unfold lifeFlags
  rw [onlyRendered_inUse h, onlyRendered_active h, onlyRendered_waits h]

/-- A parameter write moves registers, STATUS and the builder. -/
theorem writeParam_lifeFlags (s : State) (a : PAddr) (v : RegVal) : lifeFlags (writeParam s a v) = lifeFlags s := by
  rcases writeParam_cases s a v with ⟨-, e⟩ | ⟨r, -, -, e⟩ | ⟨r, -, -, e⟩ | ⟨r, -, -, e⟩ <;> rw [e]
  · rfl
  · rfl
  · rfl
  · unfold storeParam lifeFlags
    simp only [respond_voice]
    split
    · rw [msoRequest_voice, setReg_voice]
    · rw [setReg_voice]

theorem readParam_lifeFlags (s : State) (a : PAddr) : lifeFlags (readParam s a) = lifeFlags s := by
  rcases readParam_cases s a with ⟨-, e⟩ | ⟨r, -, e⟩ <;> rw [e] <;> rfl

/-- A tick leaves the flags, or ends an active voice that waits (40_voice.md R334). -/
theorem tickControl_lifeFlags (s : State) :
    lifeFlags (tickControl s) = lifeFlags s
    ∨ (s.voice.active = true ∧ s.voice.waits = true ∧ lifeFlags (tickControl s) = (false, false, true)) := by
  unfold tickControl
  simp only
  split
  · next ended =>
    have waits : s.voice.waits = true := by
      have inactive := (Bool.and_eq_true_iff.mp ended).1
      exact (Bool.and_eq_true_iff.mp inactive).2
    have active : s.voice.active = true := (Bool.and_eq_true_iff.mp ended).2
    refine .inr ⟨active, waits, ?_⟩
    show (false, false, s.voice.waits) = _
    rw [waits]
  · exact .inl rfl

/-- The commands other than NOTE_ON, NOTE_OFF and TICK_CONTROL leave the flags. -/
theorem runCommand_lifeFlags {c : Command} {s t : State} (h : runCommand c s = .next t) (on : c ≠ .noteOn) (off : c ≠ .noteOff)
    (tick : c ≠ .tickControl) : lifeFlags t = lifeFlags s := by
  cases c with
  | noteOn => exact absurd rfl on
  | noteOff => exact absurd rfl off
  | tickControl => exact absurd rfl tick
  | write a v => cases h; exact writeParam_lifeFlags s a v
  | read a => cases h; exact readParam_lifeFlags s a
  | renderSample =>
    simp only [runCommand] at h
    split at h
    · exact lifeFlags_of_rendered (renderActive_only h)
    · cases h; rfl
  | buildPad => cases h; exact lifeFlags_congr (padRequest_voice s)
  | nop => cases h; rfl
  | setFrequency mhz => cases h; rfl
  | clearFilters => cases h; rfl
  | illegal opc x => cases h; rfl

/-- A command that is no WRITE_PARAM and no READ_PARAM belongs to one instruction. -/
theorem eq_rowOf_command {i : Instr} (write : ∀ a v, i.command ≠ .write a v) (read : ∀ a, i.command ≠ .read a) :
    i = RowFound.rowOf i.command := by
  have wf : i.wf = true := by
    unfold Instr.wf
    split
    · exact absurd rfl (write _ _)
    · exact absurd rfl (read _)
    · rfl
  exact (rowOf_command i wf).symm

theorem eq_noteOn_of_command {i : Instr} (h : i.command = .noteOn) : i = .noteOn := by
  have row := eq_rowOf_command (i := i) (by simp [h]) (by simp [h])
  rwa [h] at row

theorem eq_noteOff_of_command {i : Instr} (h : i.command = .noteOff) : i = .noteOff := by
  have row := eq_rowOf_command (i := i) (by simp [h]) (by simp [h])
  rwa [h] at row

theorem eq_tickControl_of_command {i : Instr} (h : i.command = .tickControl) : i = .tickControl := by
  have row := eq_rowOf_command (i := i) (by simp [h]) (by simp [h])
  rwa [h] at row

/-- NOTE_OFF moves an active voice to waiting, and no other: `in_use` equals `active` (40_voice.md R306, R335). -/
theorem noteOff_flags {inUse active : Bool} (waits : Bool) (h : inUse = active) :
    (inUse, active, active || waits)
      = if (inUse, active, waits) = (true, true, false) then (true, true, true) else (inUse, active, waits) := by
  subst h
  revert inUse waits
  decide

/-- Settles O40, by the command of the instruction. -/
theorem voiceLifeCycle : Obligations.VoiceLifeCycle := by
  constructor
  · intro req v hv
    obtain ⟨core, vid, rfl⟩ := exists_eq_reset_of_mem_resetWith hv
    exact ⟨rfl, rfl, rfl⟩
  · intro i s t running used h
    rw [exec_of_running running] at h
    refine ⟨?_, ?_, ?_, fun on off tick => ?_⟩
    · rintro rfl
      cases h
      rfl
    · rintro rfl
      cases h
      exact noteOff_flags s.voice.waits used
    · rintro rfl
      cases h
      rcases tickControl_lifeFlags s with same | ⟨active, waits, ended⟩
      · exact .inl same
      · refine .inr ⟨?_, ended⟩
        rw [used, active, waits]
    · exact runCommand_lifeFlags h (fun c => on (eq_noteOn_of_command c)) (fun c => off (eq_noteOff_of_command c))
        (fun c => tick (eq_tickControl_of_command c))

end Sys2Proof.Machine
end

section
/-! PROOFS. WRITE_PARAM and READ_PARAM on a core that is not halted (40_voice.md R302, R303): which register a write stores into, what
it leaves, what a read answers; the clamp of an LFO selector (R314) and the MSO setter quirk (R336). -/

namespace Sys2Proof.Machine

/-! ### Storing a value -/

/-- A register write changes registers only. -/
theorem setReg_onlyRegs (s : State) (k : Nat) (v : RegVal) : onlyRegs s (setReg s k v) := by
  unfold onlyRegs setReg
  split <;> rfl

theorem onlyRegs_respond {s t : State} (h : onlyRegs s t) (rc : Rc) (data : BitVec 16) : onlyRegs s (respond t rc data) :=
  congrArg (respond · rc data) h

theorem onlyRegsMso_of_onlyRegs {s t : State} (h : onlyRegs s t) : onlyRegsMso s t := by
  unfold onlyRegsMso
  rw [h]

theorem onlyRegsMso_trans {s t u : State} (h1 : onlyRegsMso s t) (h2 : onlyRegsMso t u) : onlyRegsMso s u := by
  unfold onlyRegsMso at *
  rw [h2, h1]

theorem onlyRegsMso_respond {s t : State} (h : onlyRegsMso s t) (rc : Rc) (data : BitVec 16) :
    onlyRegsMso s (respond t rc data) :=
  congrArg (respond · rc data) h

/-- A build request changes the MSO builder's request only. -/
theorem msoRequest_onlyRegsMso (s : State) : onlyRegsMso s (msoRequest s) := by
  unfold onlyRegsMso msoRequest
  split <;> rfl

/-- A build request leaves every register. -/
theorem regAt_msoRequest (s : State) (k : Nat) : regAt (msoRequest s) k = regAt s k :=
  regAt_congr (msoRequest_cfg s) (congrArg Voice.regs (msoRequest_voice s)) (msoRequest_regs s) k

/-- A write to a unit other than MSOB is a register write. -/
theorem storeParam_of_ne {a : PAddr} (unit : unitOf a ≠ 0xF) (s : State) (v : Int) :
    storeParam s a v = setReg s (quirkTarget s.cfg.quirkMsoSetters a).toNat (BitVec.ofInt 16 v) := if_neg unit

/-- A write to unit MSOB is a register write with a build request. -/
theorem storeParam_of_msob {a : PAddr} (unit : unitOf a = 0xF) (s : State) (v : Int) :
    storeParam s a v = msoRequest (setReg s (quirkTarget s.cfg.quirkMsoSetters a).toNat (BitVec.ofInt 16 v)) := if_pos unit

/-- Whatever the unit, the registers after a write are those after the register write. -/
theorem regAt_storeParam (s : State) (a : PAddr) (v : Int) (k : Nat) :
    regAt (storeParam s a v) k
      = regAt (setReg s (quirkTarget s.cfg.quirkMsoSetters a).toNat (BitVec.ofInt 16 v)) k := by
  by_cases unit : unitOf a = 0xF
  · rw [storeParam_of_msob unit, regAt_msoRequest]
  · rw [storeParam_of_ne unit]

theorem storeParam_cfg (s : State) (a : PAddr) (v : Int) : (storeParam s a v).cfg = s.cfg := by
  by_cases unit : unitOf a = 0xF
  · rw [storeParam_of_msob unit, msoRequest_cfg, setReg_cfg]
  · rw [storeParam_of_ne unit, setReg_cfg]

/-- A write leaves all of the voice but its registers. -/
theorem storeParam_voice (s : State) (a : PAddr) (v : Int) :
    (storeParam s a v).voice = { s.voice with regs := (storeParam s a v).voice.regs } := by
  by_cases unit : unitOf a = 0xF
  · rw [storeParam_of_msob unit, msoRequest_voice]
    exact setReg_voice s _ _
  · rw [storeParam_of_ne unit]
    exact setReg_voice s _ _

/-- The quirk moves no write away from unit MSOB (40_voice.md R336). -/
theorem quirkTarget_of_msob {a : PAddr} (unit : unitOf a = 0xF) (quirk : Bool) : quirkTarget quirk a = a := by
  have notSel : a ≠ 0x51E#12 := by rintro rfl; exact absurd unit (by decide)
  have notDepth : a ≠ 0x51F#12 := by rintro rfl; exact absurd unit (by decide)
  simp [quirkTarget, notSel, notDepth]

/-! ### Writes -/

/-- What a write to a read-write register answers, and the value it stores. -/
theorem exec_write {i : Instr} {a : PAddr} {v : RegVal} {r : RegInfo} {s : State} (running : s.voice.halted = false)
    (command : i.command = .write a v) (hr : regInfo s.cfg.msoLen a = some r) (ha : r.access = .rw) :
    exec i s = .next (respond (storeParam s a (domainClamp s.cfg.msoLen r.dom v))
      (if domainClamp s.cfg.msoLen r.dom v = v.toInt then .ok else .okClamped) 0) := by
  rw [exec_of_running running, command]
  exact congrArg Host.Outcome.next (writeParam_of_rw hr ha v)

/-- After a write the target holds the clamped value and every other register what it held. -/
theorem regAt_write (s : State) (a : PAddr) (w : Int) (rc : Rc) :
    let target := (quirkTarget s.cfg.quirkMsoSetters a).toNat
    let t := respond (storeParam s a w) rc 0
    regAt t target = BitVec.ofInt 16 w ∧ ∀ k, k ≠ target → regAt t k = regAt s k :=
  ⟨(regAt_storeParam s a w _).trans (regAt_setReg_self _ _ _),
    fun k ne => (regAt_storeParam s a w k).trans (regAt_setReg_other s _ ne)⟩

/-- Settles O12: outside unit MSOB the write is a register write and an answer. -/
theorem writeStoresTheClampedValue : Obligations.WriteStoresTheClampedValue := by
  intro i a v r s running command hr ha unit target w
  obtain ⟨stored, kept⟩ := regAt_write s a w (if w = v.toInt then .ok else .okClamped)
  refine ⟨_, exec_write running command hr ha, onlyRegs_respond ?_ _ _, stored, kept, rfl⟩
  rw [storeParam_of_ne unit]
  exact setReg_onlyRegs s _ _

/-- A build request of a busy or idle MSO builder, as far as the builder's own fields go (45_mso.md R577). -/
theorem msoRequest_builder (s : State) :
    (msoRequest s).program.msoBusy = true
    ∧ (s.program.msoBusy = true → (msoRequest s).program.msoPending = true
        ∧ (msoRequest s).program.msoSnap = s.program.msoSnap ∧ (msoRequest s).program.msoWait = s.program.msoWait
        ∧ (msoRequest s).program.builds = s.program.builds)
    ∧ (s.program.msoBusy = false → (msoRequest s).program.msoPending = s.program.msoPending
        ∧ (msoRequest s).program.msoSnap = msoSnapOf s) := by
  cases busy : s.program.msoBusy with
  | true =>
    rw [msoRequest_of_busy busy]
    exact ⟨busy, fun _ => ⟨rfl, rfl, rfl, rfl⟩, nofun⟩
  | false =>
    rw [msoRequest_of_idle busy]
    exact ⟨rfl, nofun, fun _ => ⟨rfl, rfl⟩⟩

/-- Settles O13: in unit MSOB the write is a register write at its own address, a build request and an answer. -/
theorem msobWriteRequestsABuild : Obligations.MsobWriteRequestsABuild := by
  intro i a v r s running command hr ha unit w
  have own : quirkTarget s.cfg.quirkMsoSetters a = a := quirkTarget_of_msob unit _
  obtain ⟨stored, kept⟩ := regAt_write s a w (if w = v.toInt then .ok else .okClamped)
  rw [own] at stored kept
  let u := setReg s a.toNat (BitVec.ofInt 16 w)
  have request : storeParam s a w = msoRequest u := by rw [storeParam_of_msob unit, own]
  have registers : onlyRegs s u := setReg_onlyRegs s _ _
  have only : onlyRegsMso s (msoRequest u) := onlyRegsMso_trans (onlyRegsMso_of_onlyRegs registers) (msoRequest_onlyRegsMso u)
  have builder : u.program = { s.program with regs := u.program.regs } := setReg_program s _ _
  obtain ⟨busy, onBusy, onIdle⟩ := msoRequest_builder u
  have snapshot : msoSnapOf u = msoSnapOf (msoRequest u) := by simp only [msoSnapOf, regAt_msoRequest]
  rw [builder] at onBusy onIdle
  rw [request] at stored kept
  refine ⟨_, exec_write running command hr ha, ?_⟩
  rw [request]
  exact ⟨onlyRegsMso_respond only _ _, stored, kept, rfl, busy, onBusy,
    fun idle => ⟨(onIdle idle).1, (onIdle idle).2.trans snapshot⟩⟩

/-! ### Reads -/

/-- An address that is no view reads as the stored register. -/
theorem readView_of_not_viewAddr {a : PAddr} (h : viewAddr a = false) (s : State) : readView s a = regAt s a.toNat := by
  have notView {b : PAddr} (hb : viewAddr b = true) : a.toNat ≠ b.toNat := by
    intro e
    rw [BitVec.eq_of_toNat_eq e, hb] at h
    cases h
  unfold readView
  split
  case h_14 => rfl
  case h_1 e => exact absurd e (notView (b := 0x000) rfl)
  case h_2 e => exact absurd e (notView (b := 0x001) rfl)
  case h_3 e => exact absurd e (notView (b := 0x002) rfl)
  case h_4 e => exact absurd e (notView (b := 0x003) rfl)
  case h_5 e => exact absurd e (notView (b := 0xD08) rfl)
  case h_6 e => exact absurd e (notView (b := 0xD18) rfl)
  case h_7 e => exact absurd e (notView (b := 0xD28) rfl)
  case h_8 e => exact absurd e (notView (b := 0xD38) rfl)
  case h_9 e => exact absurd e (notView (b := 0xD48) rfl)
  case h_10 e => exact absurd e (notView (b := 0xE10) rfl)
  case h_11 e => exact absurd e (notView (b := 0xE11) rfl)
  case h_12 e => exact absurd e (notView (b := 0xF10) rfl)
  case h_13 e => exact absurd e (notView (b := 0xF11) rfl)

/-- Settles O16: a mapped address is a view or a stored register. -/
theorem readAnswersTheRegister : Obligations.ReadAnswersTheRegister := by
  intro i a r s running command hr
  refine exec_read running command hr ?_
  cases view : viewAddr a with
  | true => rfl
  | false => exact readView_of_not_viewAddr view s

/-- No view is read-write (10_state.md R54, R55, R60). -/
theorem viewAddr_of_rw {L : Nat} {a : PAddr} {r : RegInfo} (hr : regInfo L a = some r) (ha : r.access = .rw) :
    viewAddr a = false := by
  by_contra view
  have mem : a ∈ [0x000#12, 0x001#12, 0x002#12, 0x003#12, 0xD08#12, 0xD18#12, 0xD28#12, 0xD38#12, 0xD48#12, 0xE10#12, 0xE11#12,
      0xF10#12, 0xF11#12] := List.contains_iff_mem.mp ((Bool.not_eq_false _).mp view)
  simp only [List.mem_cons, List.not_mem_nil, or_false] at mem
  rcases mem with rfl | rfl | rfl | rfl | rfl | rfl | rfl | rfl | rfl | rfl | rfl | rfl | rfl <;>
    (cases hr; cases ha)

/-- Settles O18: the write leaves the configuration and the halt flag, so the read answers the register it stored into. -/
theorem readAfterWriteGivesTheClampedValue : Obligations.ReadAfterWriteGivesTheClampedValue := by
  intro i j a v r s running write read hr ha own
  let w := domainClamp s.cfg.msoLen r.dom v
  let t := respond (storeParam s a w) (if w = v.toInt then .ok else .okClamped) 0
  obtain ⟨stored, -⟩ := regAt_write s a w (if w = v.toInt then .ok else .okClamped)
  rw [own] at stored
  have cfg : t.cfg = s.cfg := storeParam_cfg s a w
  have stillRunning : t.voice.halted = false := (congrArg Voice.halted (storeParam_voice s a w)).trans running
  have answer := readAnswersTheRegister j a r t stillRunning read (by rw [cfg]; exact hr)
  rw [viewAddr_of_rw hr ha, if_neg (by decide), stored] at answer
  exact ⟨t, _, exec_write running write hr ha, answer, rfl⟩

/-! ### The clamps -/

/-- A selector that is not negative, clamped, as bits: the index below, the delay code from bit 4 on (10_state.md R53). -/
theorem lfoSelClamp_of_nonneg {v : RegVal} (h : v.msb = false) :
    (BitVec.ofInt 16 (lfoSelClamp v)).toNat = 16 * min (v.toNat / 16 % 8) 4 + min (v.toNat % 8) 5 := by
  have nonneg : ¬v.toInt < 0 := by simpa [BitVec.msb_eq_toInt] using h
  unfold lfoSelClamp
  have cast : 16 * (min (v.toNat / 16 % 8) 4 : Nat) + (min (v.toNat % 8) 5 : Nat)
      = ((16 * min (v.toNat / 16 % 8) 4 + min (v.toNat % 8) 5 : Nat) : Int) := by push_cast; rfl
  rw [if_neg nonneg, cast, BitVec.ofInt_natCast, BitVec.toNat_ofNat]
  omega

/-- Settles O20: a negative value is cleared, else index and delay code are bounded by themselves. -/
theorem lfoSelectorClamp : Obligations.LfoSelectorClamp := by
  intro L v w
  have field (k n : Nat) : (w.extractLsb' k n).toNat = w.toNat / 2 ^ k % 2 ^ n := by
    rw [BitVec.extractLsb'_toNat, Nat.shiftRight_eq_div_pow]
  have operand (k n : Nat) : (v.extractLsb' k n).toNat = v.toNat / 2 ^ k % 2 ^ n := by
    rw [BitVec.extractLsb'_toNat, Nat.shiftRight_eq_div_pow]
  cases sign : v.msb with
  | true =>
    have negative : v.toInt < 0 := by simpa [BitVec.msb_eq_toInt] using sign
    have zero : w = 0 := congrArg (BitVec.ofInt 16) (if_pos negative)
    rw [zero]
    exact ⟨fun _ => rfl, nofun, by decide, by decide⟩
  | false =>
    have value : w.toNat = 16 * min (v.toNat / 16 % 8) 4 + min (v.toNat % 8) 5 := lfoSelClamp_of_nonneg sign
    refine ⟨nofun, fun _ => ⟨?_, ?_⟩, ?_, ?_⟩
    · rw [field, operand, value]
      omega
    · rw [field, operand, value]
      omega
    · rw [BitVec.getLsbD, Nat.testBit_eq_decide_div_mod_eq, value]
      simp only [decide_eq_false_iff_not]
      omega
    · apply BitVec.eq_of_toNat_eq
      rw [field, value]
      simp only [BitVec.ofNat_eq_ofNat, BitVec.toNat_ofNat]
      omega

/-! ### The MSO setter quirk -/

/-- Settles O21: the two redirected addresses with the quirk, every address without it. -/
theorem msoSetterQuirk : Obligations.MsoSetterQuirk := by
  refine ⟨fun s v running quirk => ⟨?_, ?_⟩, ?_⟩
  · obtain ⟨stored, kept⟩ := regAt_write s 0x51E (intClamp v.toInt 0 5) (if intClamp v.toInt 0 5 = v.toInt then .ok else .okClamped)
    rw [quirk] at stored kept
    exact ⟨_, exec_write running rfl rfl rfl, stored, kept⟩
  · obtain ⟨stored, kept⟩ := regAt_write s 0x51F (intClamp v.toInt 0 100)
      (if intClamp v.toInt 0 100 = v.toInt then .ok else .okClamped)
    rw [quirk] at stored kept
    exact ⟨_, exec_write running rfl rfl rfl, stored, kept⟩
  · intro i a v r s running noQuirk command hr ha
    let w := domainClamp s.cfg.msoLen r.dom v
    obtain ⟨stored, kept⟩ := regAt_write s a w (if w = v.toInt then .ok else .okClamped)
    rw [noQuirk] at stored kept
    exact ⟨_, exec_write running command hr ha, stored, kept⟩

end Sys2Proof.Machine
end

section
/-! PROOFS. TICK_CONTROL (40_voice.md R307): what a tick leaves beside the sources and the latched values, the latched values in terms
of the registers (R316 to R324), and the end of a voice (R332 to R334). -/

namespace Sys2Proof.Machine

/-! ### What a tick leaves -/

theorem exec_tickControl {s : State} (running : s.voice.halted = false) : exec .tickControl s = .next (tickControl s) :=
  exec_of_running running _

/-- A tick ends the voice with DATA 1 and `voice_end`, or leaves the flags (40_voice.md R334). -/
theorem tickControl_cases (s : State) :
    (ends (tickSources s) = true
      ∧ tickControl s = deliver (endVoice (tickSources s)) .ok 1 none (some s.voice.voiceId))
    ∨ (ends (tickSources s) = false ∧ tickControl s = respond (tickSources s) .ok 0) := by
  cases ended : ends (tickSources s) with
  | true => exact .inl ⟨rfl, if_pos ended⟩
  | false => exact .inr ⟨rfl, if_neg (by simp [ended])⟩

/-- `t` is `s` with the sources ticked and the latched values recomputed, up to the life-cycle flags and the outputs. -/
structure Ticked (s t : State) : Prop where
  lfo : t.voice.lfo = lfoTickAll s
  adsr : t.voice.adsr = adsrTickAll s
  lat : t.voice.lat = latchedOf { s with voice := { s.voice with lfo := lfoTickAll s, adsr := adsrTickAll s } }
  frame : t = { s with
    voice := { s.voice with
      lfo := t.voice.lfo, adsr := t.voice.adsr, lat := t.voice.lat, active := t.voice.active, inUse := t.voice.inUse }
    out := t.out }

theorem tickControl_ticked (s : State) : Ticked s (tickControl s) := by
  rcases tickControl_cases s with ⟨-, e⟩ | ⟨-, e⟩ <;> rw [e] <;> exact ⟨rfl, rfl, rfl, rfl⟩

/-- The state that the latched values are computed from: the sources ticked, nothing else (40_voice.md R325). -/
def tickedSources (s : State) : State := { s with voice := { s.voice with lfo := lfoTickAll s, adsr := adsrTickAll s } }

/-- A modulation slot reads the sources and registers, which a tick leaves as they stand when the latched values are computed. -/
theorem Ticked.addMod_eq {s t : State} (h : Ticked s t) (slot : Nat) : addMod t slot = addMod (tickedSources s) slot := by
  rw [h.frame, h.lfo, h.adsr]
  rfl

/-! ### The latched values -/

theorem slotLfoIdx_eq (s : State) (slot : Nat) : slotLfoIdx s slot = ((regAt s slot).extractLsb' 0 3).toNat := by
  rw [BitVec.extractLsb'_toNat]
  rfl

/-- The LFO value of a slot (40_voice.md R316). -/
theorem lfoValue_eq (s : State) (slot : Nat) :
    lfoValue s slot = (fiveGet s.voice.lfo ((regAt s slot).extractLsb' 0 3).toNat).out := by
  rw [← slotLfoIdx_eq]
  rfl

theorem slotDelay_eq (s : State) (slot : Nat) : slotDelay s slot = ((regAt s slot).extractLsb' 4 3).toNat := by
  rw [BitVec.extractLsb'_toNat, Nat.shiftRight_eq_div_pow]
  rfl

/-- The activation delay of a slot has passed (40_voice.md R316, R317). -/
theorem lfoPresent_eq (s : State) (slot : Nat) :
    lfoPresent s slot = decide (((regAt s slot).extractLsb' 0 3).toNat ≠ 0
      ∧ 500 * ((regAt s slot).extractLsb' 4 3).toNat * s.cfg.fs ≤ (slotOwner s slot).elapsed.toNat * s.cfg.sub * 1000) := by
  have scaled : 500 * (slotDelay s slot * s.cfg.fs) ≤ 1000 * ((slotOwner s slot).elapsed.toNat * s.cfg.sub)
      ↔ 500 * slotDelay s slot * s.cfg.fs ≤ (slotOwner s slot).elapsed.toNat * s.cfg.sub * 1000 := by
    rw [Nat.mul_assoc, Nat.mul_comm 1000]
  rw [← slotLfoIdx_eq, ← slotDelay_eq, Bool.eq_iff_iff, decide_eq_true_iff, ← scaled]
  simp only [lfoPresent, Bool.and_eq_true, bne_iff_ne, decide_eq_true_eq]

theorem envPresent_iff (s : State) (slot : Nat) : envPresent s slot = true ↔ slotEnvSel s slot ≠ 0 := bne_iff_ne

/-- Settles O26: the formulas of the statement are those of the model on the state with the sources ticked, slot by slot. -/
theorem tickRecomputesTheModulation : Obligations.TickRecomputesTheModulation := by
  intro s running
  have h := tickControl_ticked s
  refine ⟨_, exec_tickControl running, h.lfo, h.adsr, h.lat, h.frame, ?_⟩
  generalize tickControl s = t at h
  rw [h.lat, h.lfo, h.adsr]
  extract_lets N one pct idx dc env owner hasLfo l e raw unit lfoPart envPart amp freq pan delta time
  have present (slot : Nat) : lfoPresent (tickedSources s) slot = hasLfo slot := lfoPresent_eq _ slot
  have value (slot : Nat) : lfoValue (tickedSources s) slot = l slot := lfoValue_eq _ slot
  have rawEq (slot : Nat) : rawMod (tickedSources s) slot = raw slot := by
    unfold rawMod
    simp only [present, value, envPresent_iff]
    rfl
  have lfoEq (slot : Nat) : lfoMod (tickedSources s) slot = lfoPart slot := by
    unfold lfoMod
    simp only [present, value]
    rfl
  have envEq (slot : Nat) : envMod (tickedSources s) slot = envPart slot := by
    unfold envMod
    simp only [envPresent_iff]
    rfl
  have addEq (slot : Nat) : addMod (tickedSources s) slot = unit (raw slot) := congrArg unit (rawEq slot)
  have ampEq (slot : Nat) : ampMod (tickedSources s) slot = amp slot := congrArg₂ N.mul (lfoEq slot) (envEq slot)
  have freqEq (u : Nat) : srcFreq (tickedSources s) u = freq u := by
    unfold srcFreq
    rw [addEq]
    rfl
  have panEq (k slot : Nat) : panMod (tickedSources s) k slot = pan k slot := by
    unfold panMod
    rw [rawEq]
    rfl
  exact ⟨fun slot => (h.addMod_eq slot).trans (addEq slot),
    freqEq 0x100, freqEq 0x200, freqEq 0x500, freqEq 0x600,
    ampEq 0x120, ampEq 0x220, ampEq 0x320, ampEq 0x520, ampEq 0x620,
    envEq 0x120, envEq 0x220, envEq 0x320, envEq 0x520, envEq 0x620, addEq 0x718, addEq 0x818,
    panEq 0xB01 0xB18, panEq 0xB03 0xB1C, fun u => ⟨rfl, rfl, rfl, rfl, rfl, rfl, rfl⟩⟩

/-! ### Pulse widths -/

/-- Settles O30: the quirk keeps a modulation that is not positive away from the width. -/
theorem pulseWidthQuirk : Obligations.PulseWidthQuirk := by
  intro s t running h
  rw [exec_tickControl running] at h
  obtain rfl := Host.Outcome.next.inj h
  have ticked := tickControl_ticked s
  rw [ticked.lat, ticked.addMod_eq, ticked.addMod_eq, ticked.addMod_eq]
  extract_lets N width
  have widthEq (u : Nat) : pulseWidth (tickedSources s) u
      = width (regPct s (u + rPwm)) (addMod (tickedSources s) (u + slotPwm)) := by
    unfold pulseWidth
    simp only [Bool.and_eq_true, Bool.not_eq_true']
    rfl
  exact ⟨widthEq 0x100, widthEq 0x200, widthEq 0x500⟩

/-! ### The end of a voice -/

/-- A generator is quiet when it is off, its envelope is silent, or both its sends are (40_voice.md R332). -/
theorem quiet_iff (s : State) (u : Nat) (env : F32) :
    quiet s u env = true ↔ regAt s u ≠ 1 ∨ fLt env (s.num.ofRatio envSilent) = true
      ∨ (sendQuiet s (u + rSend1) = true ∧ sendQuiet s (u + rSend2) = true) := by
  simp only [quiet, Bool.or_eq_true, Bool.and_eq_true, Bool.not_eq_true', not_enabled_iff, or_assoc]

theorem ksQuiet_iff (s : State) :
    ksQuiet s = true ↔ regAt s uKs ≠ 1 ∨ fLt s.voice.ks.energy (s.num.ofRatio ksEnergyFloor) = true := by
  simp only [ksQuiet, Bool.or_eq_true, Bool.not_eq_true', not_enabled_iff]

/-- A tick ends the voice when it is quiet in every generator and the string, waits and is active (40_voice.md R332 to R334). -/
theorem ends_iff (s : State) :
    ends s = true ↔
      (quiet s uOsc1 s.voice.lat.envOsc1 = true ∧ quiet s uOsc2 s.voice.lat.envOsc2 = true
        ∧ quiet s uNoise s.voice.lat.envNoise = true ∧ quiet s uMso s.voice.lat.envMso = true
        ∧ quiet s uPad s.voice.lat.envPad = true ∧ ksQuiet s = true)
      ∧ s.voice.waits = true ∧ s.voice.active = true := by
  simp only [ends, inactive, gensQuiet, Bool.and_eq_true, and_assoc]

/-- Settles O27: the tick's check is the predicate of R334 on the state with the latched values recomputed. -/
theorem tickEndsAQuietVoice : Obligations.TickEndsAQuietVoice := by
  intro s t running h
  rw [exec_tickControl running] at h
  obtain rfl := Host.Outcome.next.inj h
  have lat : (tickControl s).voice.lat = (tickSources s).voice.lat := (tickControl_ticked s).lat
  have ended := ends_iff (tickSources s)
  simp only [quiet_iff, ksQuiet_iff] at ended
  rw [lat]
  extract_lets silent quietVoice
  change _ ↔ quietVoice ∧ s.voice.waits = true ∧ s.voice.active = true at ended
  rcases tickControl_cases s with ⟨isOver, e⟩ | ⟨runs, e⟩
  · refine ⟨fun _ _ _ => ?_, fun not => absurd (ended.mp isOver) not⟩
    rw [e]
    exact ⟨rfl, rfl, rfl⟩
  · have notAll := ended.not.mp (by simp [runs])
    refine ⟨fun quiet waits active => absurd ⟨quiet, waits, active⟩ notAll, fun _ => ?_⟩
    rw [e]
    exact ⟨rfl, rfl, rfl⟩

end Sys2Proof.Machine
end

section
/-! PROOFS. One sample of an active voice (40_voice.md R308, R326 to R331, R337): the noise generator and the string (43_noise.md,
44_karplus.md), disabled generators, the mixer (47_filter_dist_amp.md), and the last check. -/

namespace Sys2Proof.Machine

/-! ### Where each generator starts -/

theorem onlyRendered_regInt {s t : State} (h : onlyRendered s t) (k : Nat) : regInt t k = regInt s k :=
  congrArg BitVec.toInt (onlyRendered_regAt h k)

theorem onlyRendered_regNat {s t : State} (h : onlyRendered s t) (k : Nat) : regNat t k = regNat s k :=
  congrArg Int.toNat (onlyRendered_regInt h k)

/-- The noise generator's part reads its own state beside what a sample leaves. -/
theorem renderNoise_congr {s t : State} (only : onlyRendered s t) (own : t.voice.noise = s.voice.noise) :
    (renderNoise t).1 = (renderNoise s).1 ∧ (renderNoise t).2.voice.noise = (renderNoise s).2.voice.noise := by
  unfold renderNoise
  simp only [onlyRendered_enabled only, onlyRendered_regNat only, onlyRendered_num only, onlyRendered_cfg only,
    onlyRendered_lat only, own]
  split
  · exact ⟨rfl, rfl⟩
  · exact ⟨rfl, own⟩

theorem ksRender_congr {s t : State} (only : onlyRendered s t) (own : t.voice.ks = s.voice.ks) : ksRender t = ksRender s := by
  unfold ksRender ksRho ksDamp
  simp only [onlyRendered_regInt only, onlyRendered_num only, own]

/-- The string's part reads its own state beside what a sample leaves. -/
theorem renderKs_congr {s t : State} (only : onlyRendered s t) (own : t.voice.ks = s.voice.ks) :
    (renderKs t).1 = (renderKs s).1 ∧ (renderKs t).2.voice.ks = (renderKs s).2.voice.ks := by
  unfold renderKs
  simp only [onlyRendered_enabled only, ksRender_congr only own]
  split
  · exact ⟨rfl, rfl⟩
  · exact ⟨rfl, own⟩

/-- The noise generator's part of a sample is its part of the state before it. -/
theorem generateAll_noise {s s' : State} {g : Gens} (h : generateAll s = some (g, s')) :
    g.noise = (renderNoise s).1 ∧ s'.voice.noise = (renderNoise s).2.voice.noise := by
  have only : onlyRendered s (renderOsc2 (renderOsc1 s).2).2 := onlyRendered_trans (renderOsc1_only s) (renderOsc2_only _)
  have own : (renderOsc2 (renderOsc1 s).2).2.voice.noise = s.voice.noise := by
    obtain ⟨_, e1⟩ := renderOsc1_state s
    obtain ⟨_, e2⟩ := renderOsc2_state (renderOsc1 s).2
    rw [e2, e1]
  obtain ⟨sample, state⟩ := renderNoise_congr only own
  obtain ⟨_, _, noise, -⟩ := generateAll_state h
  obtain ⟨_, _, -, -, rfl, -⟩ := generateAll_cases h
  exact ⟨sample, noise.trans state⟩

/-- The string's part of a sample is its part of the state before it. -/
theorem generateAll_ks {s s' : State} {g : Gens} (h : generateAll s = some (g, s')) :
    g.ks = (renderKs s).1 ∧ s'.voice.ks = (renderKs s).2.voice.ks := by
  have only : onlyRendered s (renderNoise (renderOsc2 (renderOsc1 s).2).2).2 :=
    onlyRendered_trans (renderOsc1_only s) (onlyRendered_trans (renderOsc2_only _) (renderNoise_only _))
  have own : (renderNoise (renderOsc2 (renderOsc1 s).2).2).2.voice.ks = s.voice.ks := by
    obtain ⟨_, e1⟩ := renderOsc1_state s
    obtain ⟨_, e2⟩ := renderOsc2_state (renderOsc1 s).2
    obtain ⟨_, e3⟩ := renderNoise_state (renderOsc2 (renderOsc1 s).2).2
    rw [e3, e2, e1]
  obtain ⟨sample, state⟩ := renderKs_congr only own
  obtain ⟨_, _, _, ks, -⟩ := generateAll_state h
  obtain ⟨_, _, -, -, gens, -⟩ := generateAll_cases h
  rw [gens]
  dsimp only
  exact ⟨sample, ks.trans state⟩

/-! ### Disabled generators -/

theorem fOfInt_zero : fOfInt 0 = 0 := by decide

theorem generateAll_osc1_off {s s' : State} {g : Gens} (h : generateAll s = some (g, s')) (off : regAt s uOsc1 ≠ 1) :
    g.osc1 = 0 ∧ s'.voice.osc1 = { s.voice.osc1 with wrapped := false } := by
  have part := renderOsc1_off ((not_enabled_iff s _).mpr off)
  obtain ⟨state, -⟩ := generateAll_state h
  obtain ⟨_, _, -, -, rfl, -⟩ := generateAll_cases h
  rw [state, part]
  exact ⟨fOfInt_zero, rfl⟩

theorem generateAll_osc2_off {s s' : State} {g : Gens} (h : generateAll s = some (g, s')) (off : regAt s uOsc2 ≠ 1) :
    g.osc2 = 0 ∧ s'.voice.osc2 = { s.voice.osc2 with wrapped := false } := by
  obtain ⟨_, before⟩ := renderOsc1_state s
  have part := renderOsc2_off (s := (renderOsc1 s).2) (by
    rw [onlyRendered_enabled (renderOsc1_only s)]
    exact (not_enabled_iff s _).mpr off)
  obtain ⟨-, state, -⟩ := generateAll_state h
  obtain ⟨_, _, -, -, rfl, -⟩ := generateAll_cases h
  simp only [state, part]
  rw [before]
  exact ⟨fOfInt_zero, rfl⟩

theorem generateAll_noise_off {s s' : State} {g : Gens} (h : generateAll s = some (g, s')) (off : regAt s uNoise ≠ 1) :
    g.noise = 0 ∧ s'.voice.noise = s.voice.noise := by
  obtain ⟨sample, state⟩ := generateAll_noise h
  rw [sample, state, renderNoise_off ((not_enabled_iff s _).mpr off)]
  exact ⟨fOfInt_zero, rfl⟩

theorem generateAll_ks_off {s s' : State} {g : Gens} (h : generateAll s = some (g, s')) (off : regAt s uKs ≠ 1) :
    g.ks = 0 ∧ s'.voice.ks = s.voice.ks := by
  obtain ⟨sample, state⟩ := generateAll_ks h
  rw [sample, state, renderKs_off ((not_enabled_iff s _).mpr off)]
  exact ⟨fOfInt_zero, rfl⟩

theorem generateAll_mso_off {s s' : State} {g : Gens} (h : generateAll s = some (g, s')) (off : regAt s uMso ≠ 1) :
    g.mso = 0 ∧ s'.voice.msoIdx = s.voice.msoIdx := by
  obtain ⟨_, _, _, _, before⟩ := beforeReaders_state s
  obtain ⟨m, p, hm, hp, rfl, rfl⟩ := generateAll_cases h
  change renderMso s.program.msoSel (beforeReaders s) = some m at hm
  have disabled : enabled (beforeReaders s) uMso = false := by
    rw [before]
    exact (not_enabled_iff s _).mpr off
  rw [renderMso_off _ disabled] at hm
  cases hm
  obtain ⟨_, _, afterPad⟩ := renderPad_state hp
  rw [afterPad, before]
  exact ⟨fOfInt_zero, rfl⟩

theorem generateAll_pad_off {s s' : State} {g : Gens} (h : generateAll s = some (g, s')) (off : regAt s uPad ≠ 1) :
    g.padA = 0 ∧ g.padB = 0 ∧ s'.voice.padPos = s.voice.padPos ∧ s'.voice.padLenSeen = s.voice.padLenSeen := by
  obtain ⟨_, _, _, _, before⟩ := beforeReaders_state s
  obtain ⟨m, p, hm, hp, rfl, rfl⟩ := generateAll_cases h
  change renderMso s.program.msoSel (beforeReaders s) = some m at hm
  obtain ⟨_, afterMso⟩ := renderMso_state hm
  have disabled : enabled m.2 uPad = false := by
    rw [afterMso, before]
    exact (not_enabled_iff s _).mpr off
  rw [renderPad_off _ disabled] at hp
  cases hp
  rw [afterMso, before]
  exact ⟨fOfInt_zero, fOfInt_zero, rfl, rfl⟩

/-- Settles O34, generator by generator: each finds its register and its state as the sample found them. -/
theorem disabledGeneratorsRest : Obligations.DisabledGeneratorsRest :=
  fun _ _ _ h => ⟨generateAll_osc1_off h, generateAll_osc2_off h, generateAll_noise_off h, generateAll_ks_off h,
    generateAll_mso_off h, generateAll_pad_off h⟩

/-! ### Enabled noise generator and string -/

/-- The enabled noise generator scales its colour's output (40_voice.md R326, 43_noise.md R507). -/
theorem generateAll_noise_on {s s' : State} {g : Gens} (h : generateAll s = some (g, s')) (on : regAt s uNoise = 1) :
    let r := noiseRender s.num s.cfg.pink (regNat s (uNoise + 1)) s.voice.noise
    g.noise = s.num.mul r.1 s.voice.lat.ampNoise ∧ s'.voice.noise = r.2 := by
  obtain ⟨sample, state⟩ := generateAll_noise h
  have enable := (enabled_iff s _).mpr on
  rw [sample, state]
  unfold renderNoise
  rw [if_pos enable]
  exact ⟨rfl, rfl⟩

/-- The enabled string gives its sample unscaled (40_voice.md R326). -/
theorem generateAll_ks_on {s s' : State} {g : Gens} (h : generateAll s = some (g, s')) (on : regAt s uKs = 1) :
    g.ks = (ksRender s).1 ∧ s'.voice.ks = (ksRender s).2 := by
  obtain ⟨sample, state⟩ := generateAll_ks h
  have part : renderKs s = ((ksRender s).1, { s with voice := { s.voice with ks := (ksRender s).2 } }) :=
    if_pos ((enabled_iff s _).mpr on)
  rw [sample, state, part]
  exact ⟨rfl, rfl⟩

/-- The loop gain in use, by the register that holds it (44_karplus.md R537 to R539). -/
theorem ksRho_eq (s : State) :
    let v := regInt s (if s.voice.ks.held then uKs + 8 else uKs + 9)
    ksRho s = if regAt s (uKs + 5) = 0 then rhoDirect s.num v else rhoMagic s.num s.voice.ks.fPluck v := by
  have direct : regInt s (uKs + 5) = 0 ↔ regAt s (uKs + 5) = 0 :=
    ⟨fun h => BitVec.eq_of_toInt_eq h, fun h => congrArg BitVec.toInt h⟩
  unfold ksRho
  simp only [direct]

/-! ### The last check -/

/-- An active voice whose generators give their samples answers the mixer's pair after the last check (40_voice.md R308). -/
theorem exec_renderSample_of_active {s s' : State} {g : Gens} (running : s.voice.halted = false) (active : s.voice.active = true)
    (h : generateAll s = some (g, s')) :
    exec .renderSample s = .next (finishSample (mixOut s' g).1 (mixOut s' g).2) := by
  rw [exec_of_running running]
  refine (if_pos active).trans ?_
  unfold renderActive
  rw [h]

/-- Settles O33, by the last check's two cases. -/
theorem nonFiniteSampleBecomesSilence : Obligations.NonFiniteSampleBecomesSilence := by
  intro s s' g running active h lr m
  rw [exec_renderSample_of_active running active h]
  rcases finishSample_cases lr m with ⟨left, right, e⟩ | ⟨notFinite, e⟩
  · refine ⟨fun _ _ => congrArg _ e, fun notFinite => ?_⟩
    rw [left, right] at notFinite
    simp at notFinite
  · refine ⟨fun left right => ?_, fun _ => congrArg _ e⟩
    rw [left, right] at notFinite
    simp at notFinite

/-- The last check delivers a finite pair with OK; it raises at most RT_FAULT, and leaves the string (40_voice.md R308, R331). -/
theorem finishSample_answer (lr : F32 × F32) (s : State) :
    (∃ l r, (finishSample lr s).out = ⟨some (responseWord .ok 0), some (l, r), none⟩ ∧ fFinite l = true ∧ fFinite r = true)
    ∧ ((finishSample lr s).voice.status = s.voice.status ∨ (finishSample lr s).voice.status = s.voice.status ||| 0x08)
    ∧ (finishSample lr s).voice.ks = s.voice.ks := by
  rcases finishSample_cases lr s with ⟨left, right, e⟩ | ⟨-, e⟩ <;> rw [e]
  · exact ⟨⟨lr.1, lr.2, rfl, left, right⟩, .inl rfl, rfl⟩
  · exact ⟨⟨0, 0, rfl, by decide, by decide⟩, .inr rfl, rfl⟩

/-- In a good state an active voice's generators give their samples. -/
theorem StateInv.generateAll_next {s : State} (hs : StateInv s) (running : s.voice.halted = false) :
    ∃ g s', Machine.generateAll s = some (g, s') := by
  have bounds := msoLen_bounds (msoLen_of_cfgLegal (hs.cfgLegal_of_running running))
  exact generateAll_isSome (by omega) (pos_of_mem_padLens (padBank_len hs.programParts _))

/-- A sample moves the delay line at the string's position only (44_karplus.md R540). -/
theorem generateAll_buf {s s' : State} {g : Gens} (h : generateAll s = some (g, s')) {j : Nat} (hj : j ≠ s.voice.ks.pos) :
    storeGet (fun _ => 0) s'.voice.ks.buf j = storeGet (fun _ => 0) s.voice.ks.buf j := by
  rw [(generateAll_ks h).2]
  exact renderKs_buf s hj

/-- An active voice of a good running core renders a finite pair, within the frame (40_voice.md R308). -/
theorem renderSample_completes {s : State} (hs : StateInv s) (running : s.voice.halted = false) (active : s.voice.active = true) :
    ∃ t l r, exec .renderSample s = .next t
      ∧ t.out = ⟨some (responseWord .ok 0), some (l, r), none⟩ ∧ fFinite l = true ∧ fFinite r = true
      ∧ onlyRendered s t
      ∧ (t.voice.status = s.voice.status ∨ t.voice.status = s.voice.status ||| 0x08)
      ∧ ∀ j, j ≠ s.voice.ks.pos → storeGet (fun _ => 0) t.voice.ks.buf j = storeGet (fun _ => 0) s.voice.ks.buf j := by
  obtain ⟨g, s', h⟩ := hs.generateAll_next running
  obtain ⟨⟨l, r, out, left, right⟩, status, ks⟩ := finishSample_answer (mixOut s' g).1 (mixOut s' g).2
  have only := onlyRendered_trans (generateAll_only h) (onlyRendered_trans (mixOut_only s' g) (finishSample_only (mixOut s' g).1 _))
  have statusBefore : (mixOut s' g).2.voice.status = s.voice.status := by
    obtain ⟨-, -, -, -, e, -⟩ := generateAll_state h
    rw [mixOut_state]
    exact e
  have ksBefore : (mixOut s' g).2.voice.ks = s'.voice.ks := by rw [mixOut_state]
  rw [statusBefore] at status
  refine ⟨_, l, r, exec_renderSample_of_active running active h, out, left, right, only, status, fun j hj => ?_⟩
  rw [ks, ksBefore]
  exact generateAll_buf h hj

/-- Settles O32: the frame of the sample, the noise generator colour by colour, and the string's loop. -/
theorem renderCompletes : Obligations.RenderCompletes := by
  refine ⟨fun s hs running active => renderSample_completes hs running active, ?_, rfl, ?_⟩
  · intro s s' g h on
    obtain ⟨sample, state⟩ := generateAll_noise_on h on
    have color (c : Nat) (hc : regAt s 0x301 = BitVec.ofNat 16 c) (small : c < 3) : regNat s (uNoise + 1) = c := by
      unfold regNat regInt
      rw [hc]
      interval_cases c <;> rfl
    refine ⟨fun white => ?_, fun pink => ?_, fun brown => ?_⟩
    · rw [color 0 white (by decide)] at sample state
      exact ⟨sample, state⟩
    · rw [color 1 pink (by decide)] at sample state
      exact ⟨sample, state⟩
    · rw [color 2 brown (by decide)] at sample state
      exact ⟨sample, state⟩
  · intro s s' g h on
    obtain ⟨sample, state⟩ := generateAll_ks_on h on
    have gain := ksRho_eq s
    extract_lets N k at' y damp v t60 rho
    have written : at' s'.voice.ks.buf k.pos = N.mul (ksRho s) (N.add (N.mul (N.sub (fOfInt 1) (ksDamp s)) y)
        (N.mul (ksDamp s) (at' k.buf ((k.pos + 1) % k.len)))) := by
      rw [state]
      exact storeGet_set_self _ _ _ _
    refine ⟨sample, ?_, ?_, fun j hj => ?_⟩
    · rw [state]
      rfl
    · rw [written, gain]
      rfl
    · rw [state]
      exact storeGet_set_other _ _ _ hj

end Sys2Proof.Machine
end

section
/-! PROOFS. The mixer of one sample, from the registers: buses, state-variable filters, distortion and amplifier (40_voice.md R327 to
R329; 47_filter_dist_amp.md R650 to R682). -/

namespace Sys2Proof.Machine

/-- The tap of a band, by its code (47_filter_dist_amp.md R657). -/
theorem bandTap_eq (band : Nat) (x lp hp bp : F32) :
    bandTap band x lp hp bp = if band = 0 then lp else if band = 1 then hp else if band = 2 then bp else x := by
  match band with
  | 0 => rfl
  | 1 => rfl
  | 2 => rfl
  | n + 3 => simp [bandTap]

/-- A register that holds a flag is 1 as an integer exactly when it is 1 as bits. -/
theorem regInt_beq_one_iff (s : State) (k : Nat) : (regInt s k == 1) = true ↔ regAt s k = 1 := enabled_iff s k

/-- An enabled distortion unit blends the clipped signal, attenuated by auto gain above a drive of 4, with the signal
(47_filter_dist_amp.md R670 to R672). -/
theorem distStage_eq (s : State) (u : Nat) (y : F32) :
    let N := s.num
    let k := distDrive s u
    let clip := N.mul (numTwoOverPi N) (N.atan (N.mul y k))
    let yd := if regAt s (u + 4) = 1 ∧ fLt (fOfInt 4) k = true then N.div clip (fOfInt 4) else clip
    distStage s u y
      = if regAt s u = 1 then N.add (N.mul (regPct s (u + 3)) yd) (N.mul (N.sub (fOfInt 1) (regPct s (u + 3))) y) else y := by
  unfold distStage dist
  simp only [enabled_iff, Bool.and_eq_true, regInt_beq_one_iff]

/-- The channels read nothing that the other one moves: the mixer runs both on the state it starts from. -/
theorem mixOut_eq (s : State) (g : Gens) :
    let r1 := svfStep s uFilt1 s.voice.lat.ffm1 (busSum s rSend1 g g.padA) s.voice.filt1
    let r2 := svfStep s uFilt2 s.voice.lat.ffm2 (busSum s rSend2 g g.padB) s.voice.filt2
    mixOut s g = (ampOut s (distStage s uDist1 r1.1) (distStage s uDist2 r2.1),
      { s with voice := { s.voice with filt1 := r1.2, filt2 := r2.2 } }) := rfl

/-- Settles O37: the statement's formulas are those of the filters, the distortion and the amplifier, unit by unit. -/
theorem filtersAndAmplifier : Obligations.FiltersAndAmplifier := by
  intro s g
  extract_lets N one pct bus fmax cutoff low run stage c1 c2 side
  have filter (u : Nat) (ffm x : F32) (f : Filt) : svfStep s u ffm x f = run u ffm x f := by
    unfold svfStep
    simp only [bandTap_eq]
    rfl
  have distortion (u : Nat) (y : F32) : distStage s u y = stage u y := distStage_eq s u y
  have mixed := mixOut_eq s g
  simp only [filter, distortion] at mixed
  rw [mixed]
  exact ⟨rfl, rfl⟩

end Sys2Proof.Machine
end

section
/-! PROOFS. A sample reads the registers that are marked live and no other (10_state.md R54; 40_voice.md R325; 70_reset_and_hazards.md
R761, R762): with other values in the others, another STATUS and other outputs on the ports, a RENDER_SAMPLE emits the same pair. -/

namespace Sys2Proof.Machine

/-! ### Live registers -/

/-- The register at an address is read at every RENDER_SAMPLE (10_state.md R54). -/
def liveReg (L k : Nat) : Bool := (regInfo L (BitVec.ofNat 12 k)).any fun r => r.effect = .live

/-- `s` with the core's registers, STATUS and outputs of `t`. -/
def withRegsOf (t s : State) : State :=
  { s with voice := { s.voice with regs := t.voice.regs, status := t.voice.status }, out := t.out }

theorem withRegsOf_cfg (t s : State) : (withRegsOf t s).cfg = s.cfg := rfl
theorem withRegsOf_num (t s : State) : (withRegsOf t s).num = s.num := rfl
theorem withRegsOf_program (t s : State) : (withRegsOf t s).program = s.program := rfl

/-- With the registers of `t` the live ones are those of `s`. -/
def LiveAgree (t s : State) : Prop := ∀ k, liveReg s.cfg.msoLen k = true → regAt (withRegsOf t s) k = regAt s k

/-- A sample moves no register. -/
theorem LiveAgree.of_only {t s s' : State} (h : LiveAgree t s) (only : onlyRendered s s') : LiveAgree t s' := by
  intro k live
  have cfg : s'.cfg = s.cfg := onlyRendered_cfg only
  have program : s'.program = s.program := onlyRendered_program only
  have swapped : regAt (withRegsOf t s') k = regAt (withRegsOf t s) k :=
    regAt_congr (s := withRegsOf t s) (t := withRegsOf t s') cfg rfl (congrArg Program.regs program) k
  rw [cfg] at live
  rw [swapped, h k live, onlyRendered_regAt only]

section

variable {t s : State} (h : LiveAgree t s)

include h

theorem LiveAgree.regInt {k : Nat} (live : liveReg s.cfg.msoLen k = true) : regInt (withRegsOf t s) k = regInt s k :=
  congrArg BitVec.toInt (h k live)

theorem LiveAgree.regNat {k : Nat} (live : liveReg s.cfg.msoLen k = true) : regNat (withRegsOf t s) k = regNat s k :=
  congrArg Int.toNat (h.regInt live)

theorem LiveAgree.regPct {k : Nat} (live : liveReg s.cfg.msoLen k = true) : regPct (withRegsOf t s) k = regPct s k :=
  congrArg (numPct s.num) (h.regInt live)

theorem LiveAgree.enabled {u : Nat} (live : liveReg s.cfg.msoLen u = true) : enabled (withRegsOf t s) u = enabled s u :=
  congrArg (· == 1) (h.regInt live)

end

/-! The live registers of the units that come twice. -/

/-- The indices of the live registers of OSC1 and OSC2. -/
def oscLive : List Nat := [0x00, 0x01, 0x06, 0x07, 0x08, 0x09, 0x0A, 0x0B, 0x0C, 0x0D, 0x0E, 0x0F, 0x10, 0x11, 0x12, 0x13, 0x14]

theorem liveReg_osc (L : Nat) {u i : Nat} (hu : u = uOsc1 ∨ u = uOsc2) (hi : i ∈ oscLive) : liveReg L (u + i) = true := by
  rcases hu with rfl | rfl <;> fin_cases hi <;> rfl

theorem liveReg_filt (L : Nat) {u i : Nat} (hu : u = uFilt1 ∨ u = uFilt2) (hi : i ∈ [0, 1, 2, 3, 4]) :
    liveReg L (u + i) = true := by
  rcases hu with rfl | rfl <;> fin_cases hi <;> rfl

theorem liveReg_dist (L : Nat) {u i : Nat} (hu : u = uDist1 ∨ u = uDist2) (hi : i ∈ [0, 1, 2, 3, 4]) :
    liveReg L (u + i) = true := by
  rcases hu with rfl | rfl <;> fin_cases hi <;> rfl

/-- The send registers of every generator are live (40_voice.md R327). -/
theorem liveReg_send (L : Nat) {u r : Nat} (hu : u ∈ [uOsc1, uOsc2, uNoise, uKs, uMso, uPad]) (hr : r = rSend1 ∨ r = rSend2) :
    liveReg L (u + r) = true := by
  rcases hr with rfl | rfl <;> fin_cases hu <;> rfl

/-! ### The generators -/

section

variable {t s : State} (h : LiveAgree t s)

include h

theorem LiveAgree.layerFreq {u : Nat} (hu : u = uOsc1 ∨ u = uOsc2) (fsrc : F32) (i : Nat) :
    layerFreq (withRegsOf t s) u fsrc i = layerFreq s u fsrc i := by
  unfold Machine.layerFreq spread
  rw [h.regNat (liveReg_osc _ hu (by decide)), h.regPct (liveReg_osc _ hu (by decide))]
  rfl

theorem LiveAgree.advanceOsc {u : Nat} (hu : u = uOsc1 ∨ u = uOsc2) (fsrc : F32) (o : Osc) :
    advanceOsc (withRegsOf t s) u fsrc o = advanceOsc s u fsrc o := by
  unfold Machine.advanceOsc layerInc
  simp only [h.regNat (liveReg_osc _ hu (by decide : rUniMode ∈ oscLive)),
    h.regNat (liveReg_osc _ hu (by decide : rWaveform ∈ oscLive)), h.layerFreq hu, withRegsOf_cfg, withRegsOf_num]

/-- The levels of the nine layers are live (42_oscillator.md R461). -/
theorem LiveAgree.stackLevels {u : Nat} (hu : u = uOsc1 ∨ u = uOsc2) :
    (List.range 9).map (fun i => Machine.regPct (withRegsOf t s) (u + rUniLevel + i))
      = (List.range 9).map fun i => Machine.regPct s (u + rUniLevel + i) := by
  refine List.map_congr_left fun i hi => ?_
  have level : rUniLevel + i ∈ oscLive := by fin_cases hi <;> decide
  rw [Nat.add_assoc]
  exact h.regPct (liveReg_osc _ hu level)

theorem LiveAgree.oscRender {u : Nat} (hu : u = uOsc1 ∨ u = uOsc2) (fsrc pw : F32) (o : Osc) :
    oscRender (withRegsOf t s) u fsrc pw o = oscRender s u fsrc pw o := by
  unfold Machine.oscRender layerWaves stackMix
  simp only [h.regNat (liveReg_osc _ hu (by decide : rWaveform ∈ oscLive)),
    h.regNat (liveReg_osc _ hu (by decide : rUniMode ∈ oscLive)), h.regPct (liveReg_osc _ hu (by decide : rUniDist ∈ oscLive)),
    h.stackLevels hu, h.advanceOsc hu, withRegsOf_num]

theorem LiveAgree.renderOsc1 : renderOsc1 (withRegsOf t s) = ((renderOsc1 s).1, withRegsOf t (renderOsc1 s).2) := by
  unfold Machine.renderOsc1
  rw [h.enabled rfl, h.oscRender (.inl rfl)]
  split <;> rfl

theorem LiveAgree.hardSync : hardSync (withRegsOf t s) = hardSync s := by
  unfold Machine.hardSync
  rw [h.regInt rfl]
  rfl

theorem LiveAgree.renderOsc2 : renderOsc2 (withRegsOf t s) = ((renderOsc2 s).1, withRegsOf t (renderOsc2 s).2) := by
  unfold Machine.renderOsc2
  rw [h.enabled rfl, h.oscRender (.inr rfl), h.hardSync]
  split <;> rfl

theorem LiveAgree.renderNoise : renderNoise (withRegsOf t s) = ((renderNoise s).1, withRegsOf t (renderNoise s).2) := by
  unfold Machine.renderNoise
  rw [h.enabled rfl, h.regNat rfl]
  split <;> rfl

theorem LiveAgree.ksRender : ksRender (withRegsOf t s) = ksRender s := by
  have decay : liveReg s.cfg.msoLen (if s.voice.ks.held then uKs + 8 else uKs + 9) = true := by split <;> rfl
  have gain : ksRho (withRegsOf t s) = ksRho s := by
    unfold ksRho
    rw [h.regInt (k := uKs + 5) rfl]
    exact congrArg (fun v => if Machine.regInt s (uKs + 5) = 0 then rhoDirect s.num v
      else rhoMagic s.num s.voice.ks.fPluck v) (h.regInt decay)
  unfold Machine.ksRender ksDamp
  rw [gain, h.regInt rfl]
  rfl

theorem LiveAgree.renderKs : renderKs (withRegsOf t s) = ((renderKs s).1, withRegsOf t (renderKs s).2) := by
  unfold Machine.renderKs
  rw [h.enabled rfl, h.ksRender]
  split <;> rfl

theorem LiveAgree.renderMso (b : Bool) :
    renderMso b (withRegsOf t s) = (renderMso b s).map fun r => (r.1, withRegsOf t r.2) := by
  have index : msoIndex (withRegsOf t s) = msoIndex s := rfl
  unfold Machine.renderMso
  rw [h.enabled rfl, index]
  simp only [withRegsOf_cfg, withRegsOf_num, withRegsOf_program]
  split
  · split <;> rfl
  · rfl

theorem LiveAgree.renderPad (b : Bool) :
    renderPad b (withRegsOf t s) = (renderPad b s).map fun r => (r.1, r.2.1, withRegsOf t r.2.2) := by
  have rescaled (len : Nat) : padRescale s.num (withRegsOf t s).voice len = padRescale s.num s.voice len := rfl
  unfold Machine.renderPad
  rw [h.enabled rfl]
  simp only [withRegsOf_num, withRegsOf_program, rescaled]
  split
  · split <;> rfl
  · rfl

end

/-- The generators without a table run on the live registers, one after the other. -/
theorem LiveAgree.beforeReaders {t s : State} (h : LiveAgree t s) :
    beforeReaders (withRegsOf t s) = withRegsOf t (beforeReaders s)
    ∧ ∀ m p, gensOf (withRegsOf t s) (m.1, withRegsOf t m.2) (p.1, p.2.1, withRegsOf t p.2.2) = gensOf s m p := by
  have h1 := h.of_only (renderOsc1_only s)
  have h2 := h1.of_only (renderOsc2_only _)
  have h3 := h2.of_only (renderNoise_only _)
  unfold Machine.beforeReaders gensOf
  simp only [h.renderOsc1, h1.renderOsc2, h2.renderNoise, h3.renderKs, implies_true, and_self]

theorem LiveAgree.generateAll {t s : State} (h : LiveAgree t s) :
    generateAll (withRegsOf t s) = (generateAll s).map fun r => (r.1, withRegsOf t r.2) := by
  obtain ⟨before, gens⟩ := h.beforeReaders
  have atReaders : LiveAgree t (Machine.beforeReaders s) :=
    h.of_only (onlyRendered_trans (renderOsc1_only s) (onlyRendered_trans (renderOsc2_only _)
      (onlyRendered_trans (renderNoise_only _) (renderKs_only _))))
  rw [generateAll_eq_bind, generateAll_eq_bind, before, withRegsOf_program, atReaders.renderMso]
  cases hm : Machine.renderMso s.program.msoSel (Machine.beforeReaders s) with
  | none => rfl
  | some m =>
    simp only [Option.map_some, Option.bind_some]
    rw [(atReaders.of_only (renderMso_only hm)).renderPad]
    cases Machine.renderPad s.program.padSel m.2 with
    | none => rfl
    | some p => simp only [Option.map_some, gens]

/-! ### The mixer -/

section

variable {t s : State} (h : LiveAgree t s)

include h

theorem LiveAgree.svfStep {u : Nat} (hu : u = uFilt1 ∨ u = uFilt2) (ffm x : F32) (f : Filt) :
    svfStep (withRegsOf t s) u ffm x f = svfStep s u ffm x f := by
  have base : Machine.regPct (withRegsOf t s) u = Machine.regPct s u := h.regPct (liveReg_filt (i := 0) _ hu (by decide))
  unfold Machine.svfStep filtCoeff filtDamp filtCutoff filtBase filtTrack
  rw [h.regNat (liveReg_filt _ hu (by decide)), h.regInt (liveReg_filt _ hu (by decide)), base,
    h.regPct (k := u + 2) (liveReg_filt _ hu (by decide)), h.regPct (k := u + 4) (liveReg_filt _ hu (by decide))]
  rfl

theorem LiveAgree.distStage {u : Nat} (hu : u = uDist1 ∨ u = uDist2) (y : F32) :
    distStage (withRegsOf t s) u y = distStage s u y := by
  unfold Machine.distStage dist distDrive
  simp only [h.enabled (u := u) (liveReg_dist (i := 0) _ hu (by decide)), h.regPct (k := u + 1) (liveReg_dist _ hu (by decide)),
    h.regInt (k := u + 2) (liveReg_dist _ hu (by decide)), h.regPct (k := u + 3) (liveReg_dist _ hu (by decide)),
    h.regInt (k := u + 4) (liveReg_dist _ hu (by decide)), withRegsOf_num]

theorem LiveAgree.busSum {r : Nat} (hr : r = rSend1 ∨ r = rSend2) (g : Gens) (pad : F32) :
    busSum (withRegsOf t s) r g pad = busSum s r g pad := by
  have send {u : Nat} (hu : u ∈ [uOsc1, uOsc2, uNoise, uKs, uMso, uPad]) := h.regPct (liveReg_send _ hu hr)
  unfold Machine.busSum
  rw [send (by decide), send (by decide), send (by decide), send (by decide), send (by decide), send (by decide)]
  rfl

theorem LiveAgree.ampOut (y1 y2 : F32) : ampOut (withRegsOf t s) y1 y2 = ampOut s y1 y2 := by
  unfold Machine.ampOut
  rw [h.regPct (k := uAmp) rfl, h.regPct (k := uAmp + 2) rfl]
  rfl

/-- The pair of the mixer reads live registers only. -/
theorem LiveAgree.mixOut (g : Gens) : (mixOut (withRegsOf t s) g).1 = (mixOut s g).1 := by
  simp only [mixOut_eq, h.busSum (.inl rfl), h.busSum (.inr rfl), h.svfStep (.inl rfl), h.svfStep (.inr rfl),
    h.distStage (.inl rfl), h.distStage (.inr rfl), h.ampOut]
  rfl

end

/-! ### The sample -/

/-- The pair that the last check lets out depends on the mixer's pair only (40_voice.md R331). -/
theorem finishSample_audio_congr (lr : F32 × F32) (s t : State) : (finishSample lr t).out.audio = (finishSample lr s).out.audio := by
  unfold finishSample
  split <;> rfl

theorem LiveAgree.renderActive {t s : State} (h : LiveAgree t s) :
    audioOf (renderActive (withRegsOf t s)) = audioOf (renderActive s) := by
  unfold Machine.renderActive
  rw [h.generateAll]
  cases hg : Machine.generateAll s with
  | none => rfl
  | some r =>
    have same := (h.of_only (generateAll_only (g := r.1) (s' := r.2) hg)).mixOut r.1
    simp only [Option.map_some, same]
    exact finishSample_audio_congr _ _ _

theorem LiveAgree.renderSample {t s : State} (h : LiveAgree t s) :
    audioOf (exec .renderSample (withRegsOf t s)) = audioOf (exec .renderSample s) := by
  have halted : (withRegsOf t s).voice.halted = s.voice.halted := rfl
  have active : (withRegsOf t s).voice.active = s.voice.active := rfl
  rw [exec_renderSample, exec_renderSample]
  unfold execRenderSample
  rw [halted, active]
  split
  · rfl
  · split
    · exact h.renderActive
    · rfl

/-! ### A write to a register that is not live -/

/-- The quirk sends no write to a live register (40_voice.md R336). -/
theorem liveReg_quirkTarget {L : Nat} {a : PAddr} {r : RegInfo} (quirk : Bool) (hr : regInfo L a = some r)
    (timed : r.effect ≠ .live) : liveReg L (quirkTarget quirk a).toNat = false := by
  unfold quirkTarget
  split
  · rfl
  · split
    · rfl
    · unfold liveReg
      rw [BitVec.ofNat_toNat, BitVec.setWidth_eq, hr]
      simpa using timed

/-- `t` differs from `s` at most in the core's registers, STATUS, the shared state and the outputs. -/
structure OnlyParams (s t : State) : Prop where
  cfg : t.cfg = s.cfg
  voice : t.voice = { s.voice with regs := t.voice.regs, status := t.voice.status }
  others : t.others = s.others
  port : t.port = s.port

theorem OnlyParams.of_onlyRegsMso {s t : State} (h : onlyRegsMso s t) : OnlyParams s t := by
  constructor <;> rw [h]

theorem OnlyParams.eq_withRegsOf {s t : State} (h : OnlyParams s t) : t = withProgram t.program (withRegsOf t s) := by
  unfold withProgram withRegsOf
  rw [← h.voice, ← h.cfg, ← h.others, ← h.port]

theorem storeParam_onlyRegsMso (s : State) (a : PAddr) (v : Int) : onlyRegsMso s (storeParam s a v) := by
  by_cases unit : unitOf a = 0xF
  · rw [storeParam_of_msob unit]
    exact onlyRegsMso_trans (onlyRegsMso_of_onlyRegs (setReg_onlyRegs s _ _)) (msoRequest_onlyRegsMso _)
  · rw [storeParam_of_ne unit]
    exact onlyRegsMso_of_onlyRegs (setReg_onlyRegs s _ _)

/-- A write to a register that is not live leaves every live register. -/
theorem writeParam_timed {s : State} {a : PAddr} {r : RegInfo} (hr : regInfo s.cfg.msoLen a = some r) (timed : r.effect ≠ .live)
    (v : RegVal) :
    OnlyParams s (writeParam s a v) ∧ ∀ k, liveReg s.cfg.msoLen k = true → regAt (writeParam s a v) k = regAt s k := by
  rcases writeParam_cases s a v with ⟨-, e⟩ | ⟨r, -, -, e⟩ | ⟨r, -, -, e⟩ | ⟨r, -, -, e⟩ <;> rw [e]
  · exact ⟨⟨rfl, rfl, rfl, rfl⟩, fun _ _ => rfl⟩
  · exact ⟨⟨rfl, rfl, rfl, rfl⟩, fun _ _ => rfl⟩
  · exact ⟨⟨rfl, rfl, rfl, rfl⟩, fun _ _ => rfl⟩
  · refine ⟨.of_onlyRegsMso (onlyRegsMso_respond (storeParam_onlyRegsMso s a _) _ _), fun k live => ?_⟩
    refine (regAt_write s a _ _).2 k ?_
    rintro rfl
    rw [liveReg_quirkTarget _ hr timed] at live
    cases live

/-- Registers that agree where they are live agree when they stand in the other state. -/
theorem LiveAgree.of_regAt {s t : State} (cfg : t.cfg = s.cfg)
    (live : ∀ k, liveReg s.cfg.msoLen k = true → regAt t k = regAt s k) : LiveAgree t s := by
  intro k hk
  by_cases shared : isShared k = true
  · unfold regAt
    rw [if_pos shared, if_pos shared]
    rfl
  · rw [← live k hk]
    unfold regAt
    rw [if_neg shared, if_neg shared, cfg]
    rfl

/-- A write that completes to a register that is not live, on a halted core too. -/
theorem exec_write_timed {i : Instr} {a : PAddr} {v : RegVal} {r : RegInfo} {s t : State} (command : i.command = .write a v)
    (hr : regInfo s.cfg.msoLen a = some r) (timed : r.effect ≠ .live) (h : exec i s = .next t) :
    OnlyParams s t ∧ LiveAgree t s := by
  rcases exec_next_cases h with ⟨-, rfl⟩ | ⟨-, h⟩
  · exact ⟨⟨rfl, rfl, rfl, rfl⟩, .of_regAt rfl fun _ _ => rfl⟩
  · rw [command] at h
    cases h
    obtain ⟨only, live⟩ := writeParam_timed hr timed v
    exact ⟨only, .of_regAt only.cfg live⟩

/-- The same tables and selects name the same banks. -/
theorem selectedBanks_of_sameTables {p q : Program} (h : sameTables p q) :
    padBank q q.padSel = padBank p p.padSel ∧ msoBank q q.msoSel = msoBank p p.msoSel := by
  obtain ⟨pad0, pad1, padSel, -, m0, m1, -, msoSel, -⟩ := h
  unfold padBank msoBank
  rw [pad0, pad1, padSel, m0, m1, msoSel]
  exact ⟨rfl, rfl⟩

/-- Settles O45: the write leaves the live registers and the tables, and a sample reads nothing else that it could change. -/
theorem timedRegistersWait : Obligations.TimedRegistersWait := by
  intro i a v r s t command hr timed h
  obtain ⟨only, agree⟩ := exec_write_timed command hr timed h
  have tables := instructionsLeaveTheTables i s t h
  obtain ⟨pad, mso⟩ := selectedBanks_of_sameTables tables
  obtain ⟨-, -, padSel, -, -, -, -, msoSel, -⟩ := tables
  calc audioOf (exec .renderSample t)
      = audioOf (exec .renderSample (withProgram t.program (withRegsOf t s))) := by rw [← only.eq_withRegsOf]
    _ = audioOf (exec .renderSample (withRegsOf t s)) := renderSample_withProgram padSel msoSel pad mso
    _ = audioOf (exec .renderSample s) := agree.renderSample

end Sys2Proof.Machine
end

section
/-! PROOFS. The envelopes at a NOTE_ON, a NOTE_OFF and a tick, and the LFOs at a tick (41_adsr_lfo.md R407 to R416, R423). -/

namespace Sys2Proof.Machine

/-! ### One of the five -/

theorem fiveGet_adsrMapAll (f : Adsr → Adsr) (x : Five Adsr) (k : Nat) : fiveGet (adsrMapAll f x) k = f (fiveGet x k) := by
  unfold fiveGet
  split <;> rfl

/-- Envelope `k` ticks from its own registers and state. -/
theorem fiveGet_adsrTickAll (s : State) {k : Nat} (first : 1 ≤ k) (last : k ≤ 5) :
    fiveGet (adsrTickAll s) k = adsrTick s (0xD00 + 16 * (k - 1)) (fiveGet s.voice.adsr k) := by
  interval_cases k <;> rfl

/-- LFO `k` ticks from its own registers and state. -/
theorem fiveGet_lfoTickAll (s : State) {k : Nat} (first : 1 ≤ k) (last : k ≤ 5) :
    fiveGet (lfoTickAll s) k = lfoTick s (0xC00 + 16 * (k - 1)) (fiveGet s.voice.lfo k) := by
  interval_cases k <;> rfl

/-! ### An envelope at a NOTE_ON (R407) -/

theorem adsrNoteOn_of_idle {x : Adsr} (N : Num) (h : x.state = .idle) :
    adsrNoteOn N x = { x with held := true, elapsed := 0, state := .attack } := by
  cases x
  cases h
  rfl

theorem adsrNoteOn_of_forceRelease {x : Adsr} (N : Num) (h : x.state = .forceRelease) :
    adsrNoteOn N x = { x with held := true, elapsed := 0 } := by
  cases x
  cases h
  rfl

/-- An envelope that sounds otherwise is cut short. -/
theorem adsrNoteOn_of_sounding {x : Adsr} (N : Num) (idle : x.state ≠ .idle) (force : x.state ≠ .forceRelease) :
    adsrNoteOn N x = enterForceRelease N { x with held := true, elapsed := 0 } := by
  cases hx : x.state with
  | idle => exact absurd hx idle
  | forceRelease => exact absurd hx force
  | attack | decay | sustain | release | offRelease => simp only [adsrNoteOn, hx]

/-- From every state the note is held, the counter starts anew and the level stays. -/
theorem adsrNoteOn_restarts (N : Num) (x : Adsr) :
    (adsrNoteOn N x).held = true ∧ (adsrNoteOn N x).elapsed = 0 ∧ (adsrNoteOn N x).level = x.level := by
  by_cases idle : x.state = .idle
  · rw [adsrNoteOn_of_idle N idle]
    exact ⟨rfl, rfl, rfl⟩
  · by_cases force : x.state = .forceRelease
    · rw [adsrNoteOn_of_forceRelease N force]
      exact ⟨rfl, rfl, rfl⟩
    · rw [adsrNoteOn_of_sounding N idle force]
      exact ⟨rfl, rfl, rfl⟩

/-- Settles O23: the command maps R407 over the envelopes. -/
theorem noteOnStartsTheEnvelopes : Obligations.NoteOnStartsTheEnvelopes := by
  intro s running
  refine ⟨noteOn s, exec_of_running running _, rfl, ?_⟩
  intro k _ _ x y
  have moved : y = adsrNoteOn s.num x := fiveGet_adsrMapAll _ _ k
  obtain ⟨held, elapsed, level⟩ := adsrNoteOn_restarts s.num x
  rw [moved]
  refine ⟨held, elapsed, level, fun idle => ?_, fun force => ?_, fun idle force => ?_⟩
  · rw [adsrNoteOn_of_idle _ idle]
    exact ⟨rfl, rfl⟩
  · rw [adsrNoteOn_of_forceRelease _ force]
    exact ⟨force, rfl⟩
  · rw [adsrNoteOn_of_sounding _ idle force]
    exact ⟨rfl, rfl⟩

/-! ### An envelope at a NOTE_OFF (R408) -/

theorem adsrNoteOff_of_attack {x : Adsr} (N : Num) (h : x.state = .attack) :
    adsrNoteOff N x = enterForceRelease N { x with held := false } := by
  cases x
  cases h
  rfl

theorem adsrNoteOff_of_decay {x : Adsr} (N : Num) (h : x.state = .decay) :
    adsrNoteOff N x = { x with held := false, state := .offRelease } := by
  cases x
  cases h
  rfl

theorem adsrNoteOff_of_sustain {x : Adsr} (N : Num) (h : x.state = .sustain) :
    adsrNoteOff N x = { x with held := false, state := .release } := by
  cases x
  cases h
  rfl

/-- An envelope that rests or falls to rest goes on as it was. -/
theorem adsrNoteOff_of_falling {x : Adsr} (N : Num)
    (h : x.state ∈ [AdsrState.idle, .release, .offRelease, .forceRelease]) : adsrNoteOff N x = { x with held := false } := by
  cases hx : x.state with
  | attack | decay | sustain => simp [hx] at h
  | idle | release | offRelease | forceRelease => simp only [adsrNoteOff, hx]

/-- From every state the note is let go, counter and level stay, and only Attack sets a force step. -/
theorem adsrNoteOff_keeps (N : Num) (x : Adsr) :
    (adsrNoteOff N x).held = false ∧ (adsrNoteOff N x).elapsed = x.elapsed ∧ (adsrNoteOff N x).level = x.level
    ∧ (x.state ≠ .attack → (adsrNoteOff N x).forceStep = x.forceStep) := by
  cases hx : x.state with
  | attack =>
    rw [adsrNoteOff_of_attack N hx]
    exact ⟨rfl, rfl, rfl, fun no => absurd rfl no⟩
  | decay =>
    rw [adsrNoteOff_of_decay N hx]
    exact ⟨rfl, rfl, rfl, fun _ => rfl⟩
  | sustain =>
    rw [adsrNoteOff_of_sustain N hx]
    exact ⟨rfl, rfl, rfl, fun _ => rfl⟩
  | idle | release | offRelease | forceRelease =>
    rw [adsrNoteOff_of_falling N (by simp [hx])]
    exact ⟨rfl, rfl, rfl, fun _ => rfl⟩

/-- What a NOTE_OFF leaves of a running core: the flag `waits`, the string's `held` and the envelopes. -/
theorem noteOff_frame (s : State) :
    noteOff s = { s with
      voice := { s.voice with
        waits := if s.voice.active then true else s.voice.waits, adsr := (noteOff s).voice.adsr
        ks := { s.voice.ks with held := false } }
      out := ⟨some (responseWord .ok 0), none, none⟩ } := by
  have waits : (if s.voice.active then true else s.voice.waits) = (s.voice.active || s.voice.waits) := by
    cases s.voice.active <;> rfl
  rw [waits]
  rfl

/-- Settles O25: the command maps R408 over the envelopes. -/
theorem noteOffReleasesTheEnvelopes : Obligations.NoteOffReleasesTheEnvelopes := by
  intro s running
  refine ⟨noteOff s, exec_of_running running _, noteOff_frame s, ?_⟩
  intro k _ _ x y
  have moved : y = adsrNoteOff s.num x := fiveGet_adsrMapAll _ _ k
  obtain ⟨held, elapsed, level, step⟩ := adsrNoteOff_keeps s.num x
  rw [moved]
  refine ⟨held, elapsed, level, fun attack => ?_, step, fun decay => ?_, fun sustain => ?_, fun falling => ?_⟩
  · rw [adsrNoteOff_of_attack _ attack]
    exact ⟨rfl, rfl⟩
  · rw [adsrNoteOff_of_decay _ decay]
  · rw [adsrNoteOff_of_sustain _ sustain]
  · rw [adsrNoteOff_of_falling _ falling]

/-! ### An envelope at a tick (R409 to R416) -/

/-- The counter saturates (R416). -/
theorem elapsedNext_toNat (e : BitVec 32) : (elapsedNext e).toNat = min (e.toNat + 1) (2 ^ 32 - 1) := by
  unfold elapsedNext
  split
  · next full =>
    rw [full]
    decide
  · next notFull =>
    have below : e ≠ 0xFFFFFFFF#32 := notFull
    bv_omega

/-- An envelope with its counter one tick on: what every tick starts with. -/
def countTick (x : Adsr) : Adsr := { x with elapsed := elapsedNext x.elapsed }

/-- A ramp down changes level and state as R413 to R415 say. -/
theorem rampDown_rule (N : Num) (step : F32) (fin : AdsrState) (x : Adsr) :
    if fLe (N.sub x.level step) (N.ofRatio ⟨1, 10000⟩) then
      (rampDown N step fin x).level = 0 ∧ (rampDown N step fin x).state = fin
    else (rampDown N step fin x).level = N.sub x.level step ∧ (rampDown N step fin x).state = x.state := by
  split
  · next low =>
    rw [show rampDown N step fin x = _ from if_pos low]
    exact ⟨rfl, rfl⟩
  · next high =>
    rw [show rampDown N step fin x = _ from if_neg high]
    exact ⟨rfl, rfl⟩

theorem rampDown_keeps (N : Num) (step : F32) (fin : AdsrState) (x : Adsr) :
    (rampDown N step fin x).held = x.held ∧ (rampDown N step fin x).forceStep = x.forceStep
    ∧ (rampDown N step fin x).elapsed = x.elapsed := by
  unfold rampDown
  simp only
  split <;> exact ⟨rfl, rfl, rfl⟩

section

variable {x : Adsr} (s : State) (u : Nat)

theorem adsrTick_of_idle (h : x.state = .idle) : adsrTick s u x = countTick x := by
  cases x
  cases h
  rfl

theorem adsrTick_of_attack (h : x.state = .attack) :
    adsrTick s u x =
      let up := s.num.add x.level (attackStep s u)
      if fLe (fOfInt 1) up then { countTick x with level := fOfInt 1, state := .decay }
      else { countTick x with level := up } := by
  cases x
  cases h
  rfl

theorem adsrTick_of_decay (h : x.state = .decay) :
    adsrTick s u x =
      let down := s.num.sub x.level (decayStep s u)
      if fLe down (sustainLevel s u) then { countTick x with level := sustainLevel s u, state := .sustain }
      else { countTick x with level := down } := by
  cases x
  cases h
  rfl

theorem adsrTick_of_sustain (h : x.state = .sustain) : adsrTick s u x = { countTick x with level := sustainLevel s u } := by
  cases x
  cases h
  rfl

theorem adsrTick_of_release (h : x.state = .release ∨ x.state = .offRelease) :
    adsrTick s u x = rampDown s.num (releaseStep s u) .idle (countTick x) := by
  cases x
  rcases h with h | h <;> cases h <;> rfl

theorem adsrTick_of_forceRelease (h : x.state = .forceRelease) :
    adsrTick s u x = rampDown s.num x.forceStep (if x.held then .attack else .idle) (countTick x) := by
  cases x
  cases h
  rfl

/-- In every state a tick keeps `held` and the force step and moves the counter on. -/
theorem adsrTick_keeps (x : Adsr) :
    (adsrTick s u x).held = x.held ∧ (adsrTick s u x).forceStep = x.forceStep
    ∧ (adsrTick s u x).elapsed = elapsedNext x.elapsed := by
  cases h : x.state with
  | idle =>
    rw [adsrTick_of_idle s u h]
    exact ⟨rfl, rfl, rfl⟩
  | attack =>
    rw [adsrTick_of_attack s u h]
    dsimp only
    split <;> exact ⟨rfl, rfl, rfl⟩
  | decay =>
    rw [adsrTick_of_decay s u h]
    dsimp only
    split <;> exact ⟨rfl, rfl, rfl⟩
  | sustain =>
    rw [adsrTick_of_sustain s u h]
    exact ⟨rfl, rfl, rfl⟩
  | release =>
    rw [adsrTick_of_release s u (.inl h)]
    exact rampDown_keeps _ _ _ _
  | offRelease =>
    rw [adsrTick_of_release s u (.inr h)]
    exact rampDown_keeps _ _ _ _
  | forceRelease =>
    rw [adsrTick_of_forceRelease s u h]
    exact rampDown_keeps _ _ _ _

end

/-- Settles O28: one case for each state at the start of the tick. -/
theorem envelopeTickRules : Obligations.EnvelopeTickRules := by
  intro s t running h k first last u x y up down fade
  rw [exec_tickControl running] at h
  obtain rfl := Host.Outcome.next.inj h
  have ticked : y = adsrTick s u x := by
    rw [← fiveGet_adsrTickAll s first last, ← (tickControl_ticked s).adsr]
  obtain ⟨held, step, elapsed⟩ := adsrTick_keeps s u x
  rw [ticked]
  refine ⟨held, step, elapsed ▸ elapsedNext_toNat _, fun idle => ?_, fun attack => ?_, fun decay => ?_, fun sustain => ?_,
    fun release => ?_, fun forceRelease => ?_⟩
  · rw [adsrTick_of_idle s u idle]
    exact ⟨idle, rfl⟩
  · rw [adsrTick_of_attack s u attack]
    dsimp only
    split
    · exact ⟨rfl, rfl⟩
    · exact ⟨rfl, attack⟩
  · rw [adsrTick_of_decay s u decay]
    dsimp only
    split
    · exact ⟨rfl, rfl⟩
    · exact ⟨rfl, decay⟩
  · rw [adsrTick_of_sustain s u sustain]
    exact ⟨rfl, sustain⟩
  · rw [adsrTick_of_release s u release]
    exact rampDown_rule s.num (releaseStep s u) .idle (countTick x)
  · rw [adsrTick_of_forceRelease s u forceRelease, ← forceRelease]
    exact rampDown_rule s.num x.forceStep _ (countTick x)

/-! ### An LFO at a tick (R423) -/

/-- The output is the waveform at the phase before the tick. -/
theorem lfoTick_out (s : State) (u : Nat) (l : Lfo) :
    (lfoTick s u l).out = wave s.num (regNat s u) l.phase (lfoWidth s u) l.hold := by
  unfold lfoTick
  simp only
  split <;> rfl

section

variable {s : State} {u : Nat} {l : Lfo}

/-- Short of 1 the phase moves on and nothing is drawn. -/
theorem lfoTick_of_no_wrap (h : fLe (fOfInt 1) (s.num.add l.phase (s.num.mul (lfoFreq s u) (tickDelta s))) = false) :
    lfoTick s u l = { l with
      out := (lfoTick s u l).out, phase := s.num.add l.phase (s.num.mul (lfoFreq s u) (tickDelta s)) } := by
  simp [lfoTick, h]

/-- From 1 on the phase wraps by its floor, and sample-and-hold draws. -/
theorem lfoTick_of_wrap (h : fLe (fOfInt 1) (s.num.add l.phase (s.num.mul (lfoFreq s u) (tickDelta s))) = true) :
    let p := s.num.add l.phase (s.num.mul (lfoFreq s u) (tickDelta s))
    lfoTick s u l =
      { out := (lfoTick s u l).out
        phase := s.num.sub p (fFloor p)
        hold := if regNat s u = 4 then prngWhite (prngNext l.prng) else l.hold
        prng := if regNat s u = 4 then prngNext l.prng else l.prng } := by
  simp [lfoTick, h, whiteNext]

end

/-- A NOTE_ON, refused or not, leaves every LFO. -/
theorem exec_noteOn_lfo {s t : State} (h : exec .noteOn s = .next t) : t.voice.lfo = s.voice.lfo := by
  rcases exec_next_cases h with ⟨-, rfl⟩ | ⟨-, run⟩
  · rfl
  · obtain rfl := Host.Outcome.next.inj run
    rfl

/-- Settles O29: a tick wraps the phase or does not. -/
theorem lfoTickRule : Obligations.LfoTickRule := by
  refine ⟨fun _ _ h => exec_noteOn_lfo h, ?_⟩
  intro s t running h k first last u x y p
  rw [exec_tickControl running] at h
  obtain rfl := Host.Outcome.next.inj h
  have ticked : y = lfoTick s u x := by
    rw [← fiveGet_lfoTickAll s first last, ← (tickControl_ticked s).lfo]
  rw [ticked]
  refine ⟨lfoTick_out s u x, fun noWrap => ?_, fun wrap => ?_⟩
  · rw [lfoTick_of_no_wrap noWrap]
    exact ⟨rfl, rfl, rfl⟩
  · rw [lfoTick_of_wrap wrap]
    refine ⟨rfl, ?_⟩
    dsimp only
    split
    · exact ⟨rfl, rfl⟩
    · exact ⟨rfl, rfl⟩

end Sys2Proof.Machine
end

section
/-! PROOFS. The oscillators in a sample (42_oscillator.md R450 to R466; 40_voice.md R326): where each starts, the waveforms, the unison
stack and its phase advance, and hard sync. -/

namespace Sys2Proof.Machine

/-! ### Where each oscillator starts -/

theorem onlyRendered_regPct {s t : State} (h : onlyRendered s t) (k : Nat) : regPct t k = regPct s k := by
  unfold regPct
  rw [onlyRendered_num h, onlyRendered_regInt h]

theorem layerInc_congr {s t : State} (only : onlyRendered s t) (u : Nat) (fsrc : F32) (i : Nat) :
    layerInc t u fsrc i = layerInc s u fsrc i := by
  unfold layerInc layerFreq spread oscMinF oscMaxF
  simp only [onlyRendered_num only, onlyRendered_cfg only, onlyRendered_regNat only, onlyRendered_regPct only]

/-- A render reads registers, configuration and the oscillator it is given, which what a sample leaves does not touch. -/
theorem oscRender_congr {s t : State} (only : onlyRendered s t) (u : Nat) (fsrc pw : F32) (o : Osc) :
    oscRender t u fsrc pw o = oscRender s u fsrc pw o := by
  unfold oscRender layerWaves stackMix advanceOsc
  simp only [onlyRendered_num only, onlyRendered_regNat only, onlyRendered_regPct only, layerInc_congr only]

/-- The oscillator with every layer's phase at 0 (42_oscillator.md R463). -/
def restarted (o : Osc) : Osc := { o with layers := nineMap (fun l => { l with phase := 0 }) o.layers }

/-- OSC2 as a sample renders it, `o1` being OSC1 after its part: from phase 0 with OSC2.SYNC 1 and a restart of OSC1's layer 0, else as
it is (42_oscillator.md R463). -/
def synced (s : State) (o1 : Osc) : Osc :=
  if regAt s (uOsc2 + rSync) = 1 ∧ o1.wrapped = true then restarted s.voice.osc2 else s.voice.osc2

theorem hardSync_eq (s : State) : hardSync s = synced s s.voice.osc1 := by
  unfold hardSync synced
  simp only [Bool.and_eq_true, regInt_beq_one_iff]
  rfl

section

variable {s s' : State} {g : Gens} (h : generateAll s = some (g, s'))

include h

/-- The enabled OSC1 gives its render times its amplitude factor (40_voice.md R326). -/
theorem generateAll_osc1_on (on : regAt s uOsc1 = 1) :
    let r := oscRender s uOsc1 s.voice.lat.fOsc1 s.voice.lat.pwOsc1 s.voice.osc1
    g.osc1 = s.num.mul r.1 s.voice.lat.ampOsc1 ∧ s'.voice.osc1 = r.2 := by
  obtain ⟨state, -⟩ := generateAll_state h
  obtain ⟨_, _, -, -, rfl, -⟩ := generateAll_cases h
  rw [state]
  unfold renderOsc1
  rw [if_pos ((enabled_iff s _).mpr on)]
  exact ⟨rfl, rfl⟩

/-- The enabled OSC2 gives its render times its amplitude factor; hard sync sees OSC1 as the sample leaves it (40_voice.md R326;
42_oscillator.md R463). -/
theorem generateAll_osc2_on (on : regAt s uOsc2 = 1) :
    let r := oscRender s uOsc2 s.voice.lat.fOsc2 s.voice.lat.pwOsc2 (synced s s'.voice.osc1)
    g.osc2 = s.num.mul r.1 s.voice.lat.ampOsc2 ∧ s'.voice.osc2 = r.2 := by
  have only := renderOsc1_only s
  have enable : enabled (renderOsc1 s).2 uOsc2 = true := (onlyRendered_enabled only _).trans ((enabled_iff s _).mpr on)
  have start : hardSync (renderOsc1 s).2 = synced s (renderOsc1 s).2.voice.osc1 := by
    obtain ⟨_, own⟩ := renderOsc1_state s
    rw [hardSync_eq]
    unfold synced
    rw [onlyRendered_regAt only, own]
  obtain ⟨osc1, osc2, -⟩ := generateAll_state h
  obtain ⟨_, _, -, -, rfl, -⟩ := generateAll_cases h
  rw [osc1, osc2]
  unfold renderOsc2
  rw [if_pos enable, start, onlyRendered_num only, onlyRendered_lat only, oscRender_congr only]
  exact ⟨rfl, rfl⟩

end

/-- Settles O35, by the two cases of hard sync; the second part of a render is the phase advance. -/
theorem hardSyncRestartsOsc2 : Obligations.HardSyncRestartsOsc2 := by
  intro s s' g h on sync rest play
  obtain ⟨sample, state⟩ := generateAll_osc2_on h on
  refine ⟨fun yes => ?_, fun no => ?_⟩
  · have start : synced s s'.voice.osc1 = rest := if_pos yes
    rw [start] at sample state
    exact ⟨sample, state, state⟩
  · have start : synced s s'.voice.osc1 = s.voice.osc2 := if_neg no
    rw [start] at sample state
    exact ⟨sample, state, state⟩

/-! ### Waveforms, ratios and the stack mix (R452 to R462, R466) -/

/-- The ratios by the mode; modes outside 2 to 5 take those of mode 0 (R458). -/
theorem unisonRatios_eq (N : Num) (mode : Nat) :
    unisonRatios N mode =
      if mode = 2 then unisonRatios N 2 else if mode = 3 then unisonRatios N 3 else if mode = 4 then unisonRatios N 4
      else if mode = 5 then unisonRatios N 5 else unisonRatios N 0 := by
  match mode with
  | 0 | 1 | 2 | 3 | 4 | 5 => rfl
  | n + 6 => simp [unisonRatios]

/-- The phase increment of layer `i`, from its ratio and its spread (R452, R459, R460). -/
theorem layerInc_eq (s : State) (u : Nat) (fsrc : F32) (i : Nat) :
    layerInc s u fsrc i =
      s.num.div (fClamp (s.num.mul (s.num.mul fsrc ((unisonRatios s.num (regNat s (u + rUniMode))).getD i (fOfInt 1)))
        (spread s u (regNat s (u + rUniMode)) (detuneQuarters.getD i 0))) (oscMinF s) (oscMaxF s)) (fOfNat s.cfg.fs) := rfl

/-- The stack mix of the nine layers' waveform values: layer 0 alone in mode 0, else their mean by level (R461). -/
theorem stackMix_layerWaves (s : State) (u : Nat) (pw : F32) (x : Nine Layer) :
    let N := s.num
    let w := fun (l : Layer) => wave N (regNat s (u + rWaveform)) l.phase pw l.hold
    let levels := [regPct s (u + 12), regPct s (u + 13), regPct s (u + 14), regPct s (u + 15), regPct s (u + 16),
      regPct s (u + 17), regPct s (u + 18), regPct s (u + 19), regPct s (u + 20)]
    stackMix s u (layerWaves s u pw x) =
      if regNat s (u + rUniMode) = 0 then w x.e0
      else if fLt (fOfInt 0) (numSum N levels) then
        N.div (numSum N (List.zipWith N.mul levels ((nineList x).map w))) (numSum N levels)
      else fOfInt 0 := rfl

/-! ### Phase advance (R464) -/

/-- From 1 on the phase wraps and waveform 4 draws the layer's value; short of 1 the phase moves on and nothing is drawn. -/
theorem advanceLayer_rule (N : Num) (wf : Nat) {inc p : F32} (l : Layer) (prng : BitVec 32) (moves : N.add l.phase inc = p) :
    let r := advanceLayer N (wf == 4) inc l prng
    r.2.2 = fLe (fOfInt 1) p
    ∧ if fLe (fOfInt 1) p then
        r.1.phase = N.sub p (fOfInt 1)
        ∧ (if wf = 4 then r.1.hold = (whiteNext prng).1 ∧ r.2.1 = (whiteNext prng).2 else r.1.hold = l.hold ∧ r.2.1 = prng)
      else r.1.phase = p ∧ r.1.hold = l.hold ∧ r.2.1 = prng := by
  obtain rfl := moves
  intro r
  by_cases wraps : fLe (fOfInt 1) (N.add l.phase inc) = true
  · have moved : r = (⟨N.sub (N.add l.phase inc) (fOfInt 1), if wf == 4 then (whiteNext prng).1 else l.hold⟩,
        if wf == 4 then (whiteNext prng).2 else prng, true) := if_pos wraps
    rw [if_pos wraps, moved]
    by_cases draws : wf = 4 <;> simp [draws, wraps]
  · have moved : r = (⟨N.add l.phase inc, l.hold⟩, prng, false) := if_neg wraps
    rw [if_neg wraps, moved]
    exact ⟨(Bool.eq_false_of_not_eq_true wraps).symm, rfl, rfl, rfl⟩

/-- Layer `i` of an oscillator. -/
def layerAt (o : Osc) (i : Nat) : Layer := (nineList o.layers).getD i ⟨0, 0⟩

/-- The PRNG before layer `i` advances, when the layers before it have advanced in rising order. -/
def prngBefore (s : State) (u : Nat) (fsrc : F32) (o : Osc) : Nat → BitVec 32
  | 0 => o.prng
  | i + 1 => (advanceLayer s.num (regNat s (u + rWaveform) == 4) (layerInc s u fsrc i) (layerAt o i) (prngBefore s u fsrc o i)).2.1

/-- The advance of layer `i` in that order. -/
def layerAdvance (s : State) (u : Nat) (fsrc : F32) (o : Osc) (i : Nat) : Layer × BitVec 32 × Bool :=
  advanceLayer s.num (regNat s (u + rWaveform) == 4) (layerInc s u fsrc i) (layerAt o i) (prngBefore s u fsrc o i)

section

variable {s : State} {u : Nat}

/-- In mode 0 layer 0 advances alone. -/
theorem advanceOsc_of_mode_zero (mode : regNat s (u + rUniMode) = 0) (fsrc : F32) (o : Osc) :
    advanceOsc s u fsrc o =
      { layers := { o.layers with e0 := (layerAdvance s u fsrc o 0).1 }
        prng := prngBefore s u fsrc o 1
        wrapped := (layerAdvance s u fsrc o 0).2.2 } := if_pos mode

/-- In the other modes the nine layers advance in rising order. -/
theorem advanceOsc_of_mode_ne_zero (mode : regNat s (u + rUniMode) ≠ 0) (fsrc : F32) (o : Osc) :
    let l := fun i => (layerAdvance s u fsrc o i).1
    advanceOsc s u fsrc o =
      { layers := ⟨l 0, l 1, l 2, l 3, l 4, l 5, l 6, l 7, l 8⟩
        prng := prngBefore s u fsrc o 9
        wrapped := (layerAdvance s u fsrc o 0).2.2 } := if_neg mode

end

/-- Each layer rests or makes its own advance; the restart flag is layer 0's. -/
theorem advanceOsc_rule (s : State) (u : Nat) (fsrc : F32) (o : Osc) :
    let mode := regNat s (u + rUniMode)
    let r := advanceOsc s u fsrc o
    r.wrapped = (layerAdvance s u fsrc o 0).2.2
    ∧ r.prng = prngBefore s u fsrc o (if mode = 0 then 1 else 9)
    ∧ ∀ i, i < 9 → layerAt r i = if mode = 0 ∧ i ≠ 0 then layerAt o i else (layerAdvance s u fsrc o i).1 := by
  intro mode r
  by_cases single : mode = 0
  · have advanced : r = _ := advanceOsc_of_mode_zero single fsrc o
    rw [advanced, if_pos single]
    refine ⟨rfl, rfl, fun i hi => ?_⟩
    by_cases first : i = 0
    · rw [if_neg (fun h => h.2 first), first]
      rfl
    · rw [if_pos ⟨single, first⟩]
      interval_cases i
      · exact absurd rfl first
      all_goals rfl
  · have advanced : r = _ := advanceOsc_of_mode_ne_zero single fsrc o
    rw [advanced, if_neg single]
    refine ⟨rfl, rfl, fun i hi => ?_⟩
    rw [if_neg (fun h => single h.1)]
    interval_cases i <;> rfl

/-- With UNISON_MODE 0 a render moves no layer but layer 0 (R458, R464). -/
theorem oscRender_layers_of_mode_zero {s : State} {u : Nat} (mode : regAt s (u + rUniMode) = 0) (fsrc pw : F32) (o : Osc) :
    (oscRender s u fsrc pw o).2.layers = { o.layers with e0 := (oscRender s u fsrc pw o).2.layers.e0 } := by
  have single : regNat s (u + rUniMode) = 0 := by
    unfold regNat regInt
    rw [mode]
    rfl
  have advanced : (oscRender s u fsrc pw o).2 = _ := advanceOsc_of_mode_zero single fsrc o
  rw [advanced]

section

variable {s s' : State} {g : Gens} (h : generateAll s = some (g, s'))

include h

/-- With UNISON_MODE 0 a sample moves no layer of OSC1 but layer 0. -/
theorem generateAll_osc1_layers (mode : regAt s (uOsc1 + rUniMode) = 0) :
    s'.voice.osc1.layers = { s.voice.osc1.layers with e0 := s'.voice.osc1.layers.e0 } := by
  by_cases on : regAt s uOsc1 = 1
  · obtain ⟨-, state⟩ := generateAll_osc1_on h on
    rw [state]
    exact oscRender_layers_of_mode_zero mode _ _ _
  · obtain ⟨-, state⟩ := generateAll_osc1_off h on
    rw [state]

/-- With UNISON_MODE 0 a sample moves no layer of OSC2 but layer 0, from the phases that hard sync leaves an enabled OSC2. -/
theorem generateAll_osc2_layers (mode : regAt s (uOsc2 + rUniMode) = 0) :
    let before := if regAt s uOsc2 = 1 ∧ regAt s (uOsc2 + rSync) = 1 ∧ s'.voice.osc1.wrapped = true then
      (restarted s.voice.osc2).layers else s.voice.osc2.layers
    s'.voice.osc2.layers = { before with e0 := s'.voice.osc2.layers.e0 } := by
  intro before
  by_cases on : regAt s uOsc2 = 1
  · have start : before = (synced s s'.voice.osc1).layers := by
      unfold synced
      simp only [before, on, true_and]
      split <;> rfl
    obtain ⟨-, state⟩ := generateAll_osc2_on h on
    rw [state, start]
    exact oscRender_layers_of_mode_zero mode _ _ _
  · have start : before = s.voice.osc2.layers := if_neg fun all => on all.1
    obtain ⟨-, state⟩ := generateAll_osc2_off h on
    rw [state, start]

end

/-- Settles O36: the layers in mode 0, the waveforms, and a render from the registers. -/
theorem unisonOffRestsTheLayers : Obligations.UnisonOffRestsTheLayers := by
  refine ⟨fun _ _ _ h => ⟨generateAll_osc1_layers h, generateAll_osc2_layers h, generateAll_osc1_on h⟩,
    fun _ _ _ _ => ⟨rfl, rfl, rfl, rfl, rfl⟩, ?_⟩
  intro s u fsrc pw o
  extract_lets N one pct mode wf semi ratios spread inc waves levels sum mix a r
  have increment (i : Nat) : layerInc s u fsrc i = inc i := by
    rw [layerInc_eq, unisonRatios_eq]
    rfl
  have phase (i : Nat) : N.add (layerAt o i).phase (layerInc s u fsrc i) = N.add (layerAt o i).phase (inc i) :=
    congrArg _ (increment i)
  have advance (i : Nat) := advanceLayer_rule N wf (layerAt o i) (prngBefore s u fsrc o i) (phase i)
  have mixed : stackMix s u (layerWaves s u pw o.layers) = mix := stackMix_layerWaves s u pw o.layers
  obtain ⟨restart, prng, layers⟩ := advanceOsc_rule s u fsrc o
  refine ⟨?_, restart.trans (advance 0).1, prngBefore s u fsrc o, rfl, prng, fun i hi => ?_⟩
  · rw [← mixed]
    rfl
  · extract_lets l l' p
    have moved : l' = _ := layers i hi
    by_cases rests : mode = 0 ∧ i ≠ 0
    · rw [if_pos rests] at moved ⊢
      exact moved
    · rw [if_neg rests] at moved ⊢
      rw [moved]
      exact (advance i).2

end Sys2Proof.Machine
end

section
/-! PROOFS. Random sources (43_noise.md R500 to R502): the seeds of distinct users, and the value of a white-noise draw, which is one of
those that binary32 holds exactly, so that rounding leaves it as it is. -/

namespace Sys2Proof.Machine

/-! ### Seeds (R501) -/

/-- The multiplier of R501 is odd, so it can be cancelled modulo 2^32. -/
theorem seedMultiplier_cancel {a b : Nat} (ha : a < 2 ^ 32) (hb : b < 2 ^ 32)
    (h : BitVec.ofNat 32 (2654435761 * a) = BitVec.ofNat 32 (2654435761 * b)) : a = b := by
  have congruent : 2654435761 * a ≡ 2654435761 * b [MOD 2 ^ 32] := by
    simpa only [BitVec.toNat_ofNat, Nat.ModEq] using congrArg BitVec.toNat h
  have coprime : Nat.gcd (2 ^ 32) 2654435761 = 1 := by norm_num
  exact (congruent.cancel_left_of_coprime coprime).eq_of_lt_of_lt ha hb

/-- Settles O59: below 2^28 the factor `16*vid + unit + 1` does not wrap, and it gives back the identity and the user. -/
theorem seedsAreDistinct : Obligations.SeedsAreDistinct := by
  intro vid vid' unit unit' hvid hvid' hunit hunit'
  refine ⟨rfl, fun h => ?_⟩
  have factors : 16 * vid + unit + 1 = 16 * vid' + unit' + 1 := seedMultiplier_cancel (by omega) (by omega) h
  omega

/-! ### Sign and magnitude -/

section
variable {m : Nat} (h : m < 2 ^ 31)
include h

theorem fMag_fOfMag (neg : Bool) : fMag (fOfMag neg m) = m := by
  cases neg <;> simp [fMag, fOfMag] <;> omega

theorem fNegative_fOfMag (neg : Bool) : fNegative (fOfMag neg m) = neg := by
  cases neg <;> simp [fNegative, fOfMag, BitVec.msb_eq_decide] <;> omega

/-- The value of a sign and magnitude bits. -/
theorem fUnits_fOfMag (neg : Bool) : fUnits (fOfMag neg m) = if neg then -(magUnits m : Int) else magUnits m := by
  rw [fUnits, fMag_fOfMag h, fNegative_fOfMag h]

end

/-! ### Values that binary32 holds exactly -/

/-- A magnitude of `q` units of 2^-149 is a finite binary32: no bit is below the 24 from its highest bit on, and it lies below 2^128. -/
structure Representable (q : Nat) : Prop where
  exact : 2 ^ (q.log2 - 23) ∣ q
  range : q.log2 < 277

/-- The magnitude bits of a representable `q`: the exponent step and the 24-bit significand, whose leading bit raises the exponent. -/
def magBits (q : Nat) : Nat := 2 ^ 23 * (q.log2 - 23) + q / 2 ^ (q.log2 - 23)

/-- The significand has 24 bits. -/
theorem significand_lt (q : Nat) : q / 2 ^ (q.log2 - 23) < 2 ^ 24 := by
  refine Nat.div_lt_of_lt_mul ?_
  calc q < 2 ^ (q.log2 + 1) := Nat.lt_log2_self
    _ ≤ 2 ^ (q.log2 - 23 + 24) := Nat.pow_le_pow_right Nat.two_pos (by omega)
    _ = 2 ^ (q.log2 - 23) * 2 ^ 24 := pow_add ..

/-- From 2^23 on the significand is normal: its leading bit is set. -/
theorem le_significand {q : Nat} (h : 23 ≤ q.log2) : 2 ^ 23 ≤ q / 2 ^ (q.log2 - 23) := by
  have nonzero : q ≠ 0 := by rintro rfl; simp at h
  refine (Nat.le_div_iff_mul_le (Nat.two_pow_pos _)).mpr ?_
  calc 2 ^ 23 * 2 ^ (q.log2 - 23) = 2 ^ q.log2 := by rw [← pow_add, Nat.add_sub_cancel' h]
    _ ≤ q := Nat.log2_self_le nonzero

/-- Below 2^23 (subnormal) the magnitude bits are the number of units. -/
theorem magBits_of_lt {q : Nat} (h : q.log2 < 23) : magBits q = q := by
  simp [magBits, Nat.sub_eq_zero_of_le h.le]

theorem Representable.magBits_lt {q : Nat} (h : Representable q) : magBits q < 0x7F800000 := by
  have range := h.range
  have significand := significand_lt q
  unfold magBits
  omega

/-- The magnitude bits of a representable magnitude stand for it. -/
theorem Representable.magUnits_magBits {q : Nat} (h : Representable q) : magUnits (magBits q) = q := by
  by_cases normal : 23 ≤ q.log2
  · have low := le_significand normal
    have high := significand_lt q
    have exponent : magBits q / 2 ^ 23 - 1 = q.log2 - 23 := by unfold magBits; omega
    have fraction : 2 ^ 23 + magBits q % 2 ^ 23 = q / 2 ^ (q.log2 - 23) := by unfold magBits; omega
    have large : ¬ magBits q < 2 ^ 23 := by unfold magBits; omega
    rw [magUnits, if_neg large, exponent, fraction, Nat.div_mul_cancel h.exact]
  · have small : q < 2 ^ 23 :=
      calc q < 2 ^ (q.log2 + 1) := Nat.lt_log2_self
        _ ≤ 2 ^ 23 := Nat.pow_le_pow_right Nat.two_pos (by omega)
    rw [magBits_of_lt (by omega), magUnits, if_pos small]

/-- Rounding a representable magnitude leaves nothing over, so it gives that magnitude. -/
theorem Representable.roundMag_mul {q d : Nat} (h : Representable q) (hd : 0 < d) : roundMag (d * q) d = magBits q := by
  have quotient : d * q / d = q := Nat.mul_div_cancel_left q hd
  have remainder : d * q % d = 0 := Nat.mul_mod_right d q
  have noRest : q % 2 ^ (q.log2 - 23) = 0 := Nat.mod_eq_zero_of_dvd h.exact
  have half : d * 2 ^ (q.log2 - 23) ≠ 0 := Nat.mul_ne_zero hd.ne' (Nat.two_pow_pos _).ne'
  have finite : magBits q ≤ 0x7F800000 := h.magBits_lt.le
  simpa [roundMag, magBits, quotient, remainder, noRest, half] using finite

/-- A value of `u` units with a representable magnitude, given as a quotient, is rounded to a finite binary32 of that value. -/
theorem Representable.fRoundUnits_mul {u : Int} (h : Representable u.natAbs) {d : Nat} (hd : 0 < d) (zneg : Bool) :
    fFinite (fRoundUnits zneg (d * u) d) = true ∧ fUnits (fRoundUnits zneg (d * u) d) = u := by
  by_cases zero : u = 0
  · subst zero
    simp [fRoundUnits, fFinite, fMag_fOfMag, fUnits_fOfMag, magUnits]
  · have positive : (0 : Int) < d := Int.natCast_pos.mpr hd
    have finite := h.magBits_lt
    have bits : fRoundUnits zneg (d * u) d = fOfMag (decide (u < 0)) (magBits u.natAbs) := by
      have nonzero : (d : Int) * u ≠ 0 := mul_ne_zero positive.ne' zero
      have sign : decide ((d : Int) * u < 0) = decide (u < 0) := decide_eq_decide.mpr (smul_neg_iff_of_pos_left positive)
      rw [fRoundUnits, if_neg nonzero, sign, Int.natAbs_mul, Int.natAbs_natCast, h.roundMag_mul hd]
    have width : magBits u.natAbs < 2 ^ 31 := by omega
    rw [bits, fFinite, fMag_fOfMag width, fUnits_fOfMag width, h.magUnits_magBits]
    refine ⟨decide_eq_true finite, ?_⟩
    simp only [decide_eq_true_eq]
    split <;> omega

/-! ### A white-noise draw (R500, R502) -/

/-- An integer of at most 24 bits, scaled by 2^126 units (that is, divided by 2^23), is representable. -/
theorem representable_of_lt {a : Nat} (h : a < 2 ^ 24) : Representable (2 ^ 126 * a) := by
  by_cases zero : a = 0
  · subst zero
    exact ⟨Dvd.intro_left 0 rfl, by decide⟩
  · have log : (2 ^ 126 * a).log2 < 150 := (Nat.log2_lt (by omega)).mpr (by omega)
    exact ⟨(pow_dvd_pow 2 (by omega)).trans (Dvd.intro a rfl), by omega⟩

/-- The value of a state is `n/2^23 - 1` for its upper 24 bits `n`, without rounding. -/
theorem prngWhite_exact (x : BitVec 32) : fFinite (prngWhite x) = true
    ∧ fUnits (prngWhite x) = 2 ^ 126 * (((x.extractLsb' 8 24).toNat : Int) - 2 ^ 23) := by
  have bound := x.isLt
  have upper : (x.extractLsb' 8 24).toNat = x.toNat / 256 := by
    rw [BitVec.extractLsb'_toNat, Nat.shiftRight_eq_div_pow]
    omega
  have small : ((x.toNat / 256 : Nat) - 2 ^ 23 : Int).natAbs < 2 ^ 24 := by omega
  have magnitude : Representable (2 ^ 126 * ((x.toNat / 256 : Nat) - 2 ^ 23 : Int)).natAbs := by
    rw [Int.natAbs_mul]
    exact representable_of_lt small
  have quotient : (2 ^ 149 * (-8388608 + (x.toNat / 256 : Nat)) : Int)
      = (8388608 : Nat) * (2 ^ 126 * ((x.toNat / 256 : Nat) - 2 ^ 23)) := by
    ring
  rw [upper, prngWhite, fOfRatio, quotient]
  exact magnitude.fRoundUnits_mul (by omega) false

/-- Settles O60: the draw's value is exact, and the upper 24 bits are at most 2^24 - 1. -/
theorem whiteNoiseIsExact : Obligations.WhiteNoiseIsExact := by
  intro x x'
  obtain ⟨finite, value⟩ := prngWhite_exact x'
  have upper := (x'.extractLsb' 8 24).isLt
  have low : -(2 ^ 149 : Int) ≤ fUnits (prngWhite x') := by omega
  have high : fUnits (prngWhite x') ≤ 2 ^ 149 - 2 ^ 126 := by omega
  exact ⟨rfl, finite, value, low, high⟩

end Sys2Proof.Machine
end

section
/-! PROOFS. The pluck of the string at a NOTE_ON (44_karplus.md R531 to R535): what the loop over the indices carries from one index to
the next, the line that it builds, and where the line stands in the delay line. -/

namespace Sys2Proof.Machine

/-! ### The excitation and the variation of one index (R532, R533) -/

/-- Codes 0 to 2 draw once, the others not at all. -/
theorem ksExcite_prng (N : Num) (code len i : Nat) (prng : BitVec 32) (prev : F32) :
    (ksExcite N code len i prng prev).2.1 = if code ≤ 2 then (whiteNext prng).2 else prng := by
  match code with
  | 0 | 1 | 2 | 3 | 4 | 5 => rfl
  | code + 6 =>
    rw [if_neg (by omega)]
    rfl

theorem ksVary_of_pos {N : Num} {var : F32} (positive : fLt (fOfInt 0) var = true) (e : F32) (prng : BitVec 32) :
    ksVary N var e prng
      = (N.add (N.mul (N.sub (fOfInt 1) var) e) (N.mul var (whiteNext prng).1), (whiteNext prng).2) := if_pos positive

theorem ksVary_of_not_pos {N : Num} {var : F32} (zero : ¬ fLt (fOfInt 0) var = true) (e : F32) (prng : BitVec 32) :
    ksVary N var e prng = (e, prng) := if_neg zero

/-! ### The loop over the indices -/

/-- What the loop carries to an index: the PRNG, and from the index before it the noise that code 2 averages and the damped value. -/
structure PluckPoint where
  prng : BitVec 32
  noise : F32
  damped : F32

/-- The excitation of index `i`, from the registers (R532). -/
def pluckExcite (s : State) (i : Nat) (p : PluckPoint) : F32 × BitVec 32 × F32 :=
  ksExcite s.num (regNat s (uKs + 1)) (ksLength s) i p.prng p.noise

/-- The excitation of index `i` after variation, from the registers (R533). -/
def pluckVary (s : State) (i : Nat) (p : PluckPoint) : F32 × BitVec 32 :=
  ksVary s.num (regPct s (uKs + 2)) (pluckExcite s i p).1 (pluckExcite s i p).2.1

/-- The share of the value before in a damped value: `0.99 * PLUCK_DAMP/100` (R534). -/
def pluckDamp (s : State) : F32 :=
  s.num.div (s.num.mul (numRat s.num 99 100) (fOfInt (regInt s (uKs + 4)))) (fOfInt 100)

/-- The damped value of index `i`: index 0 has no value before it (R534). -/
def pluckDamped (s : State) (i : Nat) (p : PluckPoint) : F32 :=
  if i = 0 then (pluckVary s i p).1
  else s.num.add (s.num.mul (s.num.sub (fOfInt 1) (pluckDamp s)) (pluckVary s i p).1) (s.num.mul (pluckDamp s) p.damped)

/-- What the loop of a pluck carries to each index. -/
def pluckPoint (s : State) : Nat → PluckPoint
  | 0 => ⟨s.voice.ks.prng, fOfInt 0, fOfInt 0⟩
  | i + 1 => ⟨(pluckVary s i (pluckPoint s i)).2, (pluckExcite s i (pluckPoint s i)).2.2, pluckDamped s i (pluckPoint s i)⟩

/-- A run of the loop from index `i` on gives the damped values that the loop carries on, and the PRNG that it ends with. -/
theorem ksLine_from_pluckPoint (s : State) (fuel i : Nat) :
    ksLine s.num (regNat s (uKs + 1)) (ksLength s) (regPct s (uKs + 2)) (pluckDamp s) fuel i
        (pluckPoint s i).prng (pluckPoint s i).noise (pluckPoint s i).damped
      = ((List.range' i fuel).map fun j => (pluckPoint s (j + 1)).damped, (pluckPoint s (i + fuel)).prng) := by
  induction fuel generalizing i with
  | zero => rfl
  | succ fuel ih =>
    have rest := ih (i + 1)
    rw [Nat.add_right_comm, Nat.add_assoc] at rest
    rw [List.range'_succ, List.map_cons]
    exact congrArg (fun r => ((pluckPoint s (i + 1)).damped :: r.1, r.2)) rest

theorem ksExcitation_eq (s : State) :
    ksExcitation s
      = ((List.range (ksLength s)).map fun i => (pluckPoint s (i + 1)).damped, (pluckPoint s (ksLength s)).prng) := by
  have line := ksLine_from_pluckPoint s (ksLength s) 0
  rw [Nat.zero_add, ← List.range_eq_range'] at line
  exact line

/-- Under code 2 an index finds the noise drawn at the index before it. -/
theorem pluckPoint_noise {s : State} (code : regNat s (uKs + 1) = 2) (i : Nat) :
    (pluckPoint s i).noise = if i = 0 then fOfInt 0 else (whiteNext (pluckPoint s (i - 1)).prng).1 := by
  cases i with
  | zero => rfl
  | succ i =>
    change (ksExcite _ (regNat s (uKs + 1)) _ _ _ _).2.2 = _
    rw [code]
    rfl

/-! ### The delay line and the energy (R535) -/

/-- An index inside the loop holds its damped value. -/
theorem ksPluck_buf_lt (s : State) {i : Nat} (inside : i < ksLength s) :
    storeGet (fun _ => 0) (ksPluck s).buf i = (pluckPoint s (i + 1)).damped := by
  have written : i < (ksExcitation s).1.length := by rwa [ksExcitation_length]
  calc storeGet (fun _ => 0) (ksPluck s).buf i
      = (ksExcitation s).1.getD i 0 := storeGet_setPrefix_lt _ _ _ i written
    _ = (pluckPoint s (i + 1)).damped := by simp [ksExcitation_eq, inside]

/-- An index from the loop length on holds what it held. -/
theorem ksPluck_buf_ge (s : State) {i : Nat} (outside : ksLength s ≤ i) :
    storeGet (fun _ => 0) (ksPluck s).buf i = storeGet (fun _ => 0) s.voice.ks.buf i :=
  storeGet_setPrefix_ge _ _ _ i (by rwa [ksExcitation_length])

/-- The first `ksLength s` elements of the delay line are the excitation. -/
theorem ksExcitation_eq_buf (s : State) :
    (ksExcitation s).1 = (List.range (ksLength s)).map fun i => storeGet (fun _ => 0) (ksPluck s).buf i := by
  rw [ksExcitation_eq]
  exact List.map_congr_left fun i listed => (ksPluck_buf_lt s (List.mem_range.mp listed)).symm

/-- The energy is the mean square of the elements in the loop. -/
theorem ksPluck_energy (s : State) :
    (ksPluck s).energy = s.num.mul (s.num.div (fOfInt 1) (fOfNat (ksLength s)))
      (numSum s.num ((List.range (ksLength s)).map fun i =>
        s.num.mul (storeGet (fun _ => 0) (ksPluck s).buf i) (storeGet (fun _ => 0) (ksPluck s).buf i))) := by
  change s.num.mul _ (numSum s.num ((ksExcitation s).1.map _)) = _
  rw [ksExcitation_eq_buf, List.map_map]
  rfl

/-! ### The pluck -/

/-- The excitation under a known code. -/
theorem pluckExcite_of_code {s : State} {code : Nat} (h : regNat s (uKs + 1) = code) (i : Nat) (p : PluckPoint) :
    (pluckExcite s i p).1 = (ksExcite s.num code (ksLength s) i p.prng p.noise).1 := by
  rw [pluckExcite, h]

/-- Variation blends in one more draw when VARIATION is above 0, and leaves excitation and PRNG otherwise (R533). -/
theorem pluckVary_cases (s : State) (i : Nat) (p : PluckPoint) :
    let N := s.num
    let var := regPct s (uKs + 2)
    let x' := if regNat s (uKs + 1) ≤ 2 then (whiteNext p.prng).2 else p.prng
    if fLt (fOfInt 0) var then
      (pluckVary s i p).1 = N.add (N.mul (N.sub (fOfInt 1) var) (pluckExcite s i p).1) (N.mul var (whiteNext x').1)
        ∧ (pluckVary s i p).2 = (whiteNext x').2
    else (pluckVary s i p).1 = (pluckExcite s i p).1 ∧ (pluckVary s i p).2 = x' := by
  intro N var x'
  have drawn : (pluckExcite s i p).2.1 = x' := ksExcite_prng _ _ _ _ _ _
  rw [pluckVary, drawn]
  split
  next positive =>
    rw [ksVary_of_pos positive]
    exact ⟨rfl, rfl⟩
  next zero =>
    rw [ksVary_of_not_pos zero]
    exact ⟨rfl, rfl⟩

/-- The damped value blends the varied excitation with the element before it in the delay line (R534). -/
theorem ksPluck_buf_damped (s : State) {i : Nat} (inside : i < ksLength s) :
    storeGet (fun _ => 0) (ksPluck s).buf i =
      if i = 0 then (pluckVary s 0 (pluckPoint s 0)).1
      else s.num.add (s.num.mul (s.num.sub (fOfInt 1) (pluckDamp s)) (pluckVary s i (pluckPoint s i)).1)
        (s.num.mul (pluckDamp s) (storeGet (fun _ => 0) (ksPluck s).buf (i - 1))) := by
  rw [ksPluck_buf_lt s inside]
  cases i with
  | zero => rfl
  | succ i =>
    rw [Nat.add_sub_cancel, ksPluck_buf_lt s (Nat.lt_of_succ_lt inside), if_neg i.succ_ne_zero]
    change pluckDamped s (i + 1) (pluckPoint s (i + 1)) = _
    rw [pluckDamped, if_neg i.succ_ne_zero]

/-- Settles O24: the points of the loop are the PRNG states, and the delay line holds the damped values that they carry. -/
theorem noteOnPlucksTheString : Obligations.NoteOnPlucksTheString := by
  intro s running
  refine ⟨noteOn s, exec_of_running running _, ?_⟩
  intro N pct len d code var pd
  obtain ⟨shortest, longest⟩ := ksLength_bounds s
  refine ⟨rfl, shortest, longest, ?_, fun i outside => ksPluck_buf_ge s outside, rfl, rfl, rfl, ksPluck_energy s⟩
  refine ⟨fun i => (pluckPoint s i).prng, fun i => (whiteNext (pluckPoint s i).prng).1,
    fun i => (pluckExcite s i (pluckPoint s i)).1, fun i => (pluckVary s i (pluckPoint s i)).1, rfl,
    congrArg Prod.snd (ksExcitation_eq s), ?_⟩
  intro i inside phi x'
  have excited {c : Nat} (h : code = c) := pluckExcite_of_code h i (pluckPoint s i)
  refine ⟨rfl, excited, excited, fun h => ?_, excited, excited, excited, excited,
    pluckVary_cases s i (pluckPoint s i), ksPluck_buf_damped s inside⟩
  rw [← pluckPoint_noise h i]
  exact excited h

end Sys2Proof.Machine
end

section
/-! PROOFS. The morphed-sine table and its build (45_mso.md R572 to R577): the effective breakpoints, the seven segments between them, and
the Table Builder's step that writes a table into the unselected bank and selects it (20_memory.md R208, 60_exceptions.md R716). -/

namespace Sys2Proof.Machine

/-! ### The effective breakpoints and the segments (R573, R574) -/

/-- A clamp into the positions of a table with at least one element gives one of its positions. -/
theorem tableClamp_le {L : Nat} (hL : 0 < L) (x : Int) : (intClamp x 0 ((L : Int) - 1)).toNat ≤ L - 1 := by
  have bounds := intClamp_bounds x (show (0 : Int) ≤ (L : Int) - 1 by omega)
  omega

theorem qLow_le {L : Nat} (hL : 0 < L) (N : Num) (sym : F32) (x : Int) : qLow N L sym x ≤ L - 1 := tableClamp_le hL _

theorem qHigh_le {L : Nat} (hL : 0 < L) (N : Num) (sym : F32) (x : Int) : qHigh N L sym x ≤ L - 1 := tableClamp_le hL _

/-- Breakpoints of a table of length `L` rise, and the last is a position of the table. -/
structure BreakPoints.Rising (L : Nat) (p : BreakPoints) : Prop where
  p1_le_p2 : p.p1 ≤ p.p2
  p2_le_p3 : p.p2 ≤ p.p3
  p3_le_p4 : p.p3 ≤ p.p4
  p4_le_p5 : p.p4 ≤ p.p5
  p5_le_p6 : p.p5 ≤ p.p6
  p6_le : p.p6 ≤ L - 1

/-- The running maximum puts unordered breakpoints in order, and a maximum of positions is a position. -/
theorem breakPoints_rising {L : Nat} (hL : 0 < L) (N : Num) (sym : F32) (a b c d e f : Int) :
    (breakPoints N L sym a b c d e f).Rising L where
  p1_le_p2 := le_max_right _ _
  p2_le_p3 := le_max_right _ _
  p3_le_p4 := le_max_right _ _
  p4_le_p5 := le_max_right _ _
  p5_le_p6 := le_max_right _ _
  p6_le :=
    have low := qLow_le hL N sym
    have high := qHigh_le hL N sym
    max_le (high f) <| max_le (high e) <| max_le (high d) <| max_le (low c) <| max_le (low b) (low a)

/-- The lengths of the segments between rising breakpoints telescope to the table length. -/
theorem BreakPoints.Rising.segmentLens_sum {L : Nat} {p : BreakPoints} (h : p.Rising L) : (segmentLens L p).sum = L := by
  obtain ⟨h12, h23, h34, h45, h56, h6⟩ := h
  simp only [segmentLens, List.sum_cons, List.sum_nil]
  omega

/-- Settles O50: the effective breakpoints are rising ones. -/
theorem msoSegmentsFillTheTable : Obligations.MsoSegmentsFillTheTable := by
  intro N L sym a b c d e f hL p
  have rising : p.Rising L := breakPoints_rising hL N sym a b c d e f
  exact ⟨rising.p1_le_p2, rising.p2_le_p3, rising.p3_le_p4, rising.p4_le_p5, rising.p5_le_p6, rising.p6_le, rising.segmentLens_sum⟩

/-! ### The step that completes a build (R577) -/

/-- The bank of a finished build holds the table of its snapshot (R575). -/
theorem storeGet_msoTable (N : Num) {L n : Nat} (x : MsoSnap) (inside : n < L) :
    storeGet (msoBaseElem N L) (storeOfList (msoBaseElem N L) 0 (msoTable N L x)) n = msoElem N L (snapBreakPoints N L x) n := by
  have read := storeGet_ofList (msoBaseElem N L) (msoTable N L x) 0 n
  rw [Nat.zero_add] at read
  rw [read]
  simp [msoTable, inside]

/-- With no PAD swap due, a due MSO swap is what the step does (log 8). -/
theorem step_of_msoDue {s : State} (noPad : padDue s.program = false) (due : msoDue s.program = true) :
    step s = .next { msoSwap s with out := .silent } := by
  rw [step, noPad, due]
  rfl

/-- What the swap makes of the program: the swapped banks, and the next build where a request is pending. -/
def msoSwapProgram (s : State) : Program :=
  { msoSwapped s with
    msoPending := false
    msoBusy := s.program.msoPending
    msoSnap := if s.program.msoPending then msoSnapOf s else s.program.msoSnap
    msoWait := if s.program.msoPending then Config.buildLatency s.program.builds else s.program.msoWait
    builds := if s.program.msoPending then s.program.builds + 1 else s.program.builds }

/-- The swap changes the program only, and no register, so a build that follows takes its snapshot from the registers as they are. -/
theorem msoSwap_eq (s : State) : msoSwap s = { s with program := msoSwapProgram s } := by
  unfold msoSwap msoSwapProgram
  cases pending : s.program.msoPending with
  | true => rfl
  | false =>
    have still : (msoSwapped s).msoPending = false := pending
    have unchanged : msoSwapped s = { msoSwapped s with msoPending := false } := by rw [← still]
    exact congrArg (fun p => { s with program := p }) unchanged

/-- The bank that readers select until the swap stays as it is (20_memory.md R208). -/
theorem msoBank_msoSwap_old (s : State) : msoBank (msoSwapProgram s) s.program.msoSel = msoBank s.program s.program.msoSel := by
  simp only [msoBank, msoSwapProgram, msoSwapped_msom0, msoSwapped_msom1]
  cases s.program.msoSel <;> rfl

/-- The bank that the swap selects holds the finished build. -/
theorem msoBank_msoSwap_new (s : State) :
    msoBank (msoSwapProgram s) (!s.program.msoSel)
      = storeOfList (msoBaseElem s.num s.cfg.msoLen) 0 (msoTable s.num s.cfg.msoLen s.program.msoSnap) := by
  simp only [msoBank, msoSwapProgram, msoSwapped_msom0, msoSwapped_msom1]
  cases s.program.msoSel <;> rfl

/-- Settles O48: the step is the swap, whose new bank holds the table of the snapshot, segment by segment. -/
theorem msoSwapPublishesTheBuild : Obligations.MsoSwapPublishesTheBuild := by
  intro s noPad due
  have swap : step s = .next { s with program := msoSwapProgram s, out := .silent } := by
    rw [step_of_msoDue noPad due, msoSwap_eq]
  refine ⟨_, swap, rfl, rfl, msoBank_msoSwap_old s, ?_, rfl, rfl, fun pending => ?_, fun idle => ?_, rfl⟩
  · intro N len snap one sym into low high p1 p2 p3 p4 p5 p6 quarter n inside
    have published : storeGet (msoBaseElem N len) (msoBank (msoSwapProgram s) (!s.program.msoSel)) n
        = msoElem N len (snapBreakPoints N len snap) n := by
      rw [msoBank_msoSwap_new]
      exact storeGet_msoTable N snap inside
    exact published
  · exact ⟨if_pos pending, if_pos pending⟩
  · have rests : ¬ s.program.msoPending = true := by rw [idle]; exact Bool.false_ne_true
    exact ⟨if_neg rests, if_neg rests, if_neg rests⟩

end Sys2Proof.Machine
end

section
/-! PROOFS. The PAD table and its build (46_pad.md R600 to R611): the drawn phases, the harmonic profiles, the sum of cosines and its
peak, and the Table Builder's step that writes a table into the unselected bank and selects it (20_memory.md R208, 60_exceptions.md
R716). -/

namespace Sys2Proof.Machine

/-! ### The spectrum and the sum of cosines (R604 to R610) -/

/-- The state of the builder's PRNG when the phase of bin `i` is drawn: the start 1 stepped once per bin (R609). -/
def binPrng (i : Nat) : BitVec 32 := prngNext^[i] 1

theorem binPrng_zero : binPrng 0 = 1 := rfl

/-- The builder's PRNG steps by R500, its sum written in the order of that rule. -/
theorem binPrng_succ (i : Nat) : binPrng (i + 1) = 1664525 * binPrng i + 1013904223 := by
  rw [binPrng, Function.iterate_succ_apply']
  exact BitVec.add_comm _ _

/-- The phase of R609 on the upper 24 bits of the drawn word. -/
theorem padPhase_eq (N : Num) (x : BitVec 32) :
    padPhase N x = N.div (N.mul (numTwoPi N) (fOfNat (x.extractLsb' 8 24).toNat)) (fOfInt 16777216) := by
  have bits : (x.extractLsb' 8 24).toNat = x.toNat / 256 := by
    rw [BitVec.extractLsb'_toNat, Nat.shiftRight_eq_div_pow]
    omega
  rw [padPhase, bits]

/-- The bins by their number: each step of the fuel is the next bin and the next draw. -/
theorem padBins_eq_map (N : Num) (amp : Nat → F32) (fuel i : Nat) (x : BitVec 32) :
    padBins N amp fuel i x
      = (List.range fuel).map fun j => (i + j, amp (i + j), padPhase N (prngNext^[j + 1] x)) := by
  induction fuel generalizing i x with
  | zero => rfl
  | succ fuel ih =>
    rw [padBins, ih, List.range_succ_eq_map, List.map_cons, List.map_map]
    congr 1
    refine List.map_congr_left fun j _ => ?_
    simp only [Function.comp_apply, Nat.succ_eq_add_one, Nat.add_assoc, Nat.add_comm 1 j, Function.iterate_succ_apply]

/-- The profile of R604 and R607, by the SHAPE and HALF_CUT registers of a snapshot. -/
theorem padProfile_eq (N : Num) (shape halfCut : RegVal) (x b : F32) :
    padProfile N shape.toNat (halfCut == 1) x b
      = if halfCut = 1 ∧ fLt (fOfInt 0) x = true then fOfInt 0
        else if shape = 0 then (if fLe (fAbs x) b then N.div (fOfInt 1) b else fOfInt 0)
        else if shape = 1 then N.div (N.exp (fNeg (N.mul (N.div x b) (N.div x b)))) b
        else N.div (N.exp (fNeg (N.div (fAbs x) b))) b := by
  have cut : (halfCut == 1 && fLt (fOfInt 0) x) = true ↔ halfCut = 1 ∧ fLt (fOfInt 0) x = true := by
    rw [Bool.and_eq_true, beq_iff_eq]
  unfold padProfile
  refine if_congr cut rfl ?_
  split
  case h_1 zero => rw [if_pos (BitVec.eq_of_toNat_eq zero)]
  case h_2 one =>
    obtain rfl : shape = 1 := BitVec.eq_of_toNat_eq one
    rfl
  case h_3 not_zero not_one =>
    rw [if_neg fun h => not_zero (congrArg BitVec.toNat h), if_neg fun h => not_one (congrArg BitVec.toNat h)]

/-- The value at index `n` before normalisation: bins 1 to `N/2 - 1`, the phase of each drawn by the builder's PRNG (R608 to R610). -/
theorem padSum_padSpectrum (N : Num) (fs : Nat) (x : PadSnap) (n : Nat) :
    padSum N (padLen x) (padSpectrum N fs x) n
      = numSum N ((List.range (padLen x / 2 - 1)).map fun j =>
          N.mul (padAmp N (padLen x) x.shape.toNat (x.halfCut == 1) (padPartials N fs x) (j + 1))
            (N.cos (N.add (N.div (N.mul (numTwoPi N) (fOfNat ((j + 1) * n % padLen x))) (fOfNat (padLen x)))
              (padPhase N (binPrng (j + 1)))))) := by
  simp only [padSum, padSpectrum, padBins_eq_map, List.map_map, Function.comp_def, Nat.add_comm 1, binPrng]

/-! ### The table of a snapshot (R610) -/

/-- The sums of a snapshot at all indices, before normalisation. -/
def padSums (N : Num) (fs : Nat) (x : PadSnap) : List F32 :=
  (List.range (padLen x)).map (padSum N (padLen x) (padSpectrum N fs x))

/-- The bank of a finished build holds the sums, divided by their peak where that is above 0. -/
theorem storeGet_padBuild (N : Num) (fs : Nat) (x : PadSnap) {n : Nat} (inside : n < padLen x) :
    storeGet (fun _ => 0) (padBuild N fs x).elems n
      = if fLt (fOfInt 0) (padPeak (padSums N fs x))
        then N.div (padSum N (padLen x) (padSpectrum N fs x) n) (padPeak (padSums N fs x))
        else padSum N (padLen x) (padSpectrum N fs x) n := by
  have read := storeGet_ofList (fun _ => 0) (padTable N fs x) 0 n
  rw [Nat.zero_add] at read
  have table : padTable N fs x = if fLt (fOfInt 0) (padPeak (padSums N fs x))
      then (padSums N fs x).map fun t => N.div t (padPeak (padSums N fs x)) else padSums N fs x := rfl
  rw [padBuild, read, table]
  split <;> simp [padSums, inside]

/-! ### The step that completes a build (R611) -/

/-- A due PAD swap is what the step does, whether or not an MSO swap is due too (log 8). -/
theorem step_of_padDue {s : State} (due : padDue s.program = true) : step s = .next { padSwap s with out := .silent } := by
  rw [step, due]
  rfl

/-- What the swap makes of the program: the swapped banks, and the next build where a request is pending. -/
def padSwapProgram (s : State) : Program :=
  { padSwapped s with
    padPending := false
    padBusy := s.program.padPending
    padSnap := if s.program.padPending then padSnapOf s else s.program.padSnap
    padWait := if s.program.padPending then Config.buildLatency s.program.builds else s.program.padWait
    builds := if s.program.padPending then s.program.builds + 1 else s.program.builds }

/-- The swap changes the program only, and no register, so a build that follows takes its snapshot from the registers as they are. -/
theorem padSwap_eq (s : State) : padSwap s = { s with program := padSwapProgram s } := by
  unfold padSwap padSwapProgram
  cases pending : s.program.padPending with
  | true => rfl
  | false =>
    have still : (padSwapped s).padPending = false := pending
    have unchanged : padSwapped s = { padSwapped s with padPending := false } := by rw [← still]
    exact congrArg (fun p => { s with program := p }) unchanged

/-- The bank that readers select until the swap stays as it is (20_memory.md R208). -/
theorem padBank_padSwap_old (s : State) : padBank (padSwapProgram s) s.program.padSel = padBank s.program s.program.padSel := by
  simp only [padBank, padSwapProgram, padSwapped_pad0, padSwapped_pad1]
  cases s.program.padSel <;> rfl

/-- The bank that the swap selects is the finished build. -/
theorem padBank_padSwap_new (s : State) :
    padBank (padSwapProgram s) (!s.program.padSel) = padBuild s.num s.cfg.fs s.program.padSnap := by
  simp only [padBank, padSwapProgram, padSwapped_pad0, padSwapped_pad1]
  cases s.program.padSel <;> rfl

/-- Settles O47: the step is the swap, whose new bank is the build of the snapshot; its sums are spelled bin by bin and harmonic by
harmonic, `binPrng` being the states of the builder's PRNG. -/
theorem padSwapPublishesTheBuild : Obligations.PadSwapPublishesTheBuild := by
  intro s due
  have swap : step s = .next { s with program := padSwapProgram s, out := .silent } := by
    rw [step_of_padDue due, padSwap_eq]
  have bank := padBank_padSwap_new s
  refine ⟨_, swap, rfl, rfl, padBank_padSwap_old s, congrArg PadBank.len bank, congrArg PadBank.f0 bank, ?_, rfl, rfl,
    fun pending => ?_, fun idle => ?_, rfl⟩
  · intro N snap len one f0 harmonics pct cents width centre profile amp
    refine ⟨binPrng, binPrng_zero, binPrng_succ, ?_⟩
    intro turn phase raw peak n inside
    have amp_eq (i : Nat) : padAmp N len snap.shape.toNat (snap.halfCut == 1) (padPartials N s.cfg.fs snap) i = amp i := by
      simp only [padAmp, padProfile_eq]
      rfl
    have phase_eq (i : Nat) : padPhase N (binPrng i) = phase i := padPhase_eq N (binPrng i)
    have raw_eq : padSum N len (padSpectrum N s.cfg.fs snap) = raw := by
      funext m
      refine (padSum_padSpectrum N s.cfg.fs snap m).trans ?_
      simp only [phase_eq]
      exact congrArg (numSum N) (List.map_congr_left fun j _ => congrArg (N.mul · _) (amp_eq (j + 1)))
    have peak_eq : padPeak (padSums N s.cfg.fs snap) = peak := congrArg (fun r => padPeak ((List.range len).map r)) raw_eq
    have published := storeGet_padBuild N s.cfg.fs snap inside
    rw [peak_eq, show padLen snap = len from rfl, raw_eq, ← bank] at published
    exact published
  · exact ⟨if_pos pending, if_pos pending⟩
  · have rests : ¬ s.program.padPending = true := by rw [idle]; exact Bool.false_ne_true
    exact ⟨if_neg rests, if_neg rests, if_neg rests⟩

end Sys2Proof.Machine
end

section
/-! PROOFS. What no instruction touches beside its own core (60_exceptions.md R717, R706; 00_scope.md R7), the change of the current
core before a voice step (log 9, log 11), and the configuration-error state (R706). -/

namespace Sys2Proof.Machine

/-! ### What no instruction touches -/

/-- The other cores, the configuration, the command port, and the number, identity and halt flag of the current core are as they
were. -/
structure SameFrame (s t : State) : Prop where
  others : t.others = s.others
  cfg : t.cfg = s.cfg
  port : t.port = s.port
  core : t.voice.core = s.voice.core
  voiceId : t.voice.voiceId = s.voice.voiceId
  halted : t.voice.halted = s.voice.halted

theorem SameFrame.refl (s : State) : SameFrame s s := ⟨rfl, rfl, rfl, rfl, rfl, rfl⟩

theorem SameFrame.deliver {s t : State} (h : SameFrame s t) (rc : Rc) (data : BitVec 16) (audio : Option (F32 × F32))
    (event : Option (BitVec 8)) : SameFrame s (deliver t rc data audio event) := { h with }

theorem SameFrame.respond {s t : State} (h : SameFrame s t) (rc : Rc) (data : BitVec 16) : SameFrame s (respond t rc data) :=
  h.deliver rc data none none

theorem SameFrame.of_onlyRegsMso {s t : State} (h : onlyRegsMso s t) : SameFrame s t := by
  rw [h]
  exact ⟨rfl, rfl, rfl, rfl, rfl, rfl⟩

theorem SameFrame.of_onlyRendered {s t : State} (h : onlyRendered s t) : SameFrame s t :=
  ⟨onlyRendered_others h, onlyRendered_cfg h, onlyRendered_port h, onlyRendered_core h, onlyRendered_voiceId h,
    onlyRendered_halted h⟩

theorem rejectCommand_sameFrame (s : State) (b : StatusBit) : SameFrame s (rejectCommand s b) :=
  ⟨rfl, rfl, rfl, rfl, rfl, rfl⟩

theorem writeParam_sameFrame (s : State) (a : PAddr) (v : RegVal) : SameFrame s (writeParam s a v) := by
  rcases writeParam_cases s a v with ⟨-, e⟩ | ⟨r, -, -, e⟩ | ⟨r, -, -, e⟩ | ⟨r, -, -, e⟩ <;> rw [e]
  · exact rejectCommand_sameFrame s _
  · exact rejectCommand_sameFrame s _
  · exact ⟨rfl, rfl, rfl, rfl, rfl, rfl⟩
  · exact (SameFrame.of_onlyRegsMso (storeParam_onlyRegsMso s a _)).respond _ _

theorem readParam_sameFrame (s : State) (a : PAddr) : SameFrame s (readParam s a) := by
  rcases readParam_cases s a with ⟨-, e⟩ | ⟨r, -, e⟩ <;> rw [e]
  · exact rejectCommand_sameFrame s _
  · exact (SameFrame.refl s).respond _ _

theorem tickControl_sameFrame (s : State) : SameFrame s (tickControl s) := by
  rw [(tickControl_ticked s).frame]
  exact ⟨rfl, rfl, rfl, rfl, rfl, rfl⟩

theorem padRequest_sameFrame (s : State) : SameFrame s (padRequest s) :=
  ⟨padRequest_others s, padRequest_cfg s, padRequest_port s, by rw [padRequest_voice], by rw [padRequest_voice],
    by rw [padRequest_voice]⟩

/-- A command works on its own core and on the shared state. -/
theorem runCommand_sameFrame {c : Command} {s t : State} (h : runCommand c s = .next t) : SameFrame s t := by
  cases c with
  | write a v => cases h; exact writeParam_sameFrame s a v
  | read a => cases h; exact readParam_sameFrame s a
  | tickControl => cases h; exact tickControl_sameFrame s
  | renderSample =>
    simp only [runCommand] at h
    split at h
    · exact .of_onlyRendered (renderActive_only h)
    · cases h; exact (SameFrame.refl s).deliver _ _ _ _
  | buildPad => cases h; exact (padRequest_sameFrame s).respond _ _
  | illegal opc x => cases h; exact rejectCommand_sameFrame s _
  | nop => cases h; exact (SameFrame.refl s).respond _ _
  | setFrequency mhz => cases h; exact ⟨rfl, rfl, rfl, rfl, rfl, rfl⟩
  | noteOn => cases h; exact ⟨rfl, rfl, rfl, rfl, rfl, rfl⟩
  | noteOff => cases h; exact ⟨rfl, rfl, rfl, rfl, rfl, rfl⟩
  | clearFilters => cases h; exact ⟨rfl, rfl, rfl, rfl, rfl, rfl⟩

theorem exec_sameFrame {i : Instr} {s t : State} (h : exec i s = .next t) : SameFrame s t := by
  rcases exec_next_cases h with ⟨-, rfl⟩ | ⟨-, h⟩
  · exact (SameFrame.refl s).deliver _ _ _ _
  · exact runCommand_sameFrame h

/-- Settles O8: the frame of every instruction. -/
theorem otherCoresAreUntouched : Obligations.OtherCoresAreUntouched := by
  intro i s t h
  obtain ⟨others, cfg, port, core, voiceId, halted⟩ := exec_sameFrame h
  exact ⟨others, cfg, port, core, voiceId, halted⟩

/-! ### The change of the current core -/

theorem insertVoice_perm (v : Voice) (vs : List Voice) : (insertVoice v vs).Perm (v :: vs) := by
  induction vs with
  | nil => exact .refl _
  | cons x xs ih =>
    unfold insertVoice
    split
    · exact .refl _
    · exact (ih.cons x).trans (.swap v x xs)

/-- A core that is found is the one that dropping its number takes away. -/
theorem dropVoice_perm {core : Nat} {v : Voice} {vs : List Voice} (h : findVoice core vs = some v) :
    (v :: dropVoice core vs).Perm vs := by
  induction vs with
  | nil => cases h
  | cons x xs ih =>
    unfold findVoice at h
    unfold dropVoice
    split at h
    · next hx =>
      cases h
      rw [if_pos hx]
    · next hx =>
      rw [if_neg hx]
      exact (List.Perm.swap x v _).trans ((ih h).cons x)

/-- A change of the current core changes the order of the cores and no more. -/
theorem focus_frame {s u : State} {core : Nat} (h : focus s core = some u) :
    u = { s with voice := u.voice, others := u.others } ∧ (u.voice :: u.others).Perm (s.voice :: s.others) := by
  rcases focus_cases s core with ⟨-, e⟩ | ⟨-, -, e⟩ | ⟨v, -, found, e⟩
  · rw [h] at e; cases e; exact ⟨rfl, .refl _⟩
  · rw [h] at e; cases e
  · rw [h] at e; cases e
    refine ⟨rfl, ?_⟩
    calc v :: insertVoice s.voice (dropVoice core s.others)
      List.Perm _ (v :: s.voice :: dropVoice core s.others) := (insertVoice_perm _ _).cons v
      List.Perm _ (s.voice :: v :: dropVoice core s.others) := .swap _ _ _
      List.Perm _ (s.voice :: s.others) := (dropVoice_perm found).cons s.voice

/-- With no swap due the step executes the word at the head of the port on the core it addresses. -/
theorem step_of_focus {s u : State} {core : Nat} {w : Word} {rest : List (Nat × Word)} (noPad : padDue s.program = false)
    (noMso : msoDue s.program = false) (port : s.port = (core, w) :: rest) (found : focus s core = some u) :
    step s = execWord w { u with port := rest, program := builderCountdown u.program } := by
  have start : voiceStart s core rest = some { u with port := rest, program := builderCountdown u.program } := by
    unfold voiceStart
    rw [found]
  unfold step
  rw [noPad, if_neg (by decide), noMso, if_neg (by decide), port]
  simp only [start]

/-- Settles O7: the change of the current core, then the step of that core's word. -/
theorem stepRunsOnTheAddressedCore : Obligations.StepRunsOnTheAddressedCore := by
  intro s core v w i rest noPad noMso port decoded other found
  have focused : focus s core = some { s with voice := v, others := insertVoice s.voice (dropVoice core s.others) } := by
    unfold focus
    rw [if_neg other, found]
  refine ⟨_, ?_, findVoice_core found, (focus_frame focused).2⟩
  rw [step_of_focus noPad noMso port focused, execWord, decoded]

/-! ### The configuration-error state -/

/-- The legal lengths of the MSO table are the powers of two from 64 to 32768. -/
theorem msoLens_contains_iff (L : Nat) : msoLens.contains L = true ↔ ∃ k, 6 ≤ k ∧ k ≤ 15 ∧ L = 2 ^ k := by
  have powers : msoLens = (List.range' 6 10).map (2 ^ ·) := rfl
  rw [List.contains_iff_mem, powers, List.mem_map]
  simp only [List.mem_range'_1]
  exact ⟨fun ⟨k, bounds, e⟩ => ⟨k, bounds.1, by omega, e.symm⟩, fun ⟨k, low, high, e⟩ => ⟨k, ⟨low, by omega⟩, e.symm⟩⟩

/-- The checks of 00_scope.md R8, one by one. -/
theorem cfgLegal_iff (c : Cfg) :
    cfgLegal c = true ↔ (∃ k, 6 ≤ k ∧ k ≤ 15 ∧ c.msoLen = 2 ^ k) ∧ c.oscMin.den ≠ 0 ∧ c.oscMax.den ≠ 0
      ∧ 2 * c.oscMax.num < c.fs * c.oscMax.den ∧ 0 < c.oscMin.num
      ∧ c.oscMin.num * c.oscMax.den < c.oscMax.num * c.oscMin.den := by
  simp only [cfgLegal, Bool.and_eq_true, decide_eq_true_eq, msoLens_contains_iff, and_assoc]

/-- The rate that the fallback leaves is one of two. -/
theorem cfgFallback_fs (req : Cfg) : (cfgFallback req).fs = if req.fs = 48000 then 48000 else 44100 := by
  unfold cfgFallback
  by_cases high : req.fs = 48000
  · simp [high]
  · by_cases low : req.fs = 44100 <;> simp [high, low]

theorem eq_renderSample_of_command {i : Instr} (h : i.command = .renderSample) : i = .renderSample := by
  have row := eq_rowOf_command (i := i) (by simp [h]) (by simp [h])
  rwa [h] at row

/-- A halted core answers ERR_CONFIG, with silence to a RENDER_SAMPLE, and changes nothing (40_voice.md R300). -/
theorem exec_of_halted {s : State} (halted : s.voice.halted = true) (i : Instr) :
    exec i s = .next (deliver s .errConfig 0 (if i = .renderSample then some (0, 0) else none) none) := by
  have audio : haltedAudio i.command = if i = .renderSample then some (0, 0) else none := by
    by_cases render : i = .renderSample
    · rw [render, if_pos rfl]
      rfl
    · rw [if_neg render]
      unfold haltedAudio
      split
      · next h => exact absurd (eq_renderSample_of_command h) render
      · rfl
  rw [exec_eq_runCommand, halted, if_pos rfl, audio]

/-- The one word of RENDER_SAMPLE. -/
theorem eq_renderSample_iff_of_decode {w : Word} {i : Instr} (decoded : decode w = .ok i) :
    i = .renderSample ↔ w = 0x70000000 := by
  constructor
  · rintro rfl
    obtain ⟨-, word⟩ := encodeOfDecode w _ decoded
    rw [← word]
    rfl
  · rintro rfl
    have render : decode 0x70000000 = .ok .renderSample := decode_word .renderSample
    rw [decoded] at render
    exact Except.ok.inj render

theorem execWord_of_halted {s : State} (halted : s.voice.halted = true) (w : Word) :
    execWord w s = .next (deliver s .errConfig 0 (if w = 0x70000000 then some (0, 0) else none) none) := by
  unfold execWord
  cases decoded : decode w with
  | ok i => simp only [exec_of_halted halted, eq_renderSample_iff_of_decode decoded]
  | error e =>
    have notRender : w ≠ 0x70000000 := by
      rintro rfl
      have render : decode 0x70000000 = .ok .renderSample := decode_word .renderSample
      rw [decoded] at render
      cases render
    rw [if_neg notRender]
    exact unlessHalted_of_halted halted _

/-- Everything a step can do to the cores: leave them all (the Table Builder's steps, waiting, a word for no core), or make one of
them the current one and run an instruction on it. -/
theorem step_next_cases {s t : State} (h : step s = .next t) :
    (t.voice = s.voice ∧ t.others = s.others)
    ∨ ∃ (u : State) (i : Instr), (u.voice :: u.others).Perm (s.voice :: s.others) ∧ exec i u = .next t := by
  unfold step at h
  split at h
  · cases h; exact .inl (padSwap_frame s).2
  · split at h
    · cases h; exact .inl (msoSwap_frame s).2
    · split at h
      · cases h; exact .inl ⟨rfl, rfl⟩
      · next core w rest _ =>
        split at h
        · cases h; exact .inl ⟨rfl, rfl⟩
        · next u start =>
          obtain ⟨i, e⟩ := execWord_eq_exec w u
          refine .inr ⟨u, i, ?_, e.symm.trans h⟩
          unfold voiceStart at start
          split at start
          · cases start
          · next found => cases start; exact (focus_frame found).2

/-- No step takes a core away or lifts its halt flag. -/
theorem step_keeps_halt {s t : State} (h : step s = .next t) {v : Voice} (hv : v ∈ s.voice :: s.others) :
    ∃ v' ∈ t.voice :: t.others, v'.core = v.core ∧ v'.halted = v.halted := by
  rcases step_next_cases h with ⟨voice, others⟩ | ⟨u, i, cores, ran⟩
  · rw [voice, others]
    exact ⟨v, hv, rfl, rfl⟩
  · have frame := exec_sameFrame ran
    rcases List.mem_cons.mp (cores.mem_iff.mpr hv) with rfl | other
    · exact ⟨t.voice, List.mem_cons_self, frame.core, frame.halted⟩
    · rw [frame.others]
      exact ⟨v, List.mem_cons_of_mem _ other, rfl, rfl⟩

/-- Settles O10: the halt flag is set at reset from the checks of R8, and it stays. -/
theorem haltedCoreDoesNothing : Obligations.HaltedCoreDoesNothing := by
  refine ⟨fun req v hv => ?_, fun i s halted => exec_of_halted halted i, fun w s halted => execWord_of_halted halted w,
    fun s t h v hv halted => ?_⟩
  · obtain ⟨core, vid, rfl⟩ := exists_eq_reset_of_mem_resetWith hv
    have flag : (Voice.reset (cfgFallback req) (decide (cfgFallback req ≠ req)) core vid).halted = !cfgLegal (cfgFallback req) :=
      rfl
    have checks := cfgLegal_iff (cfgFallback req)
    rw [cfgFallback_fs, Nat.cast_ite] at checks
    rw [flag]
    exact ⟨Iff.of_eq (Bool.not_eq_true' _), (Iff.of_eq (Bool.not_eq_false' _)).trans checks⟩
  · obtain ⟨v', hv', core, still⟩ := step_keeps_halt h hv
    exact ⟨v', hv', core, still.trans halted⟩

end Sys2Proof.Machine
end

section
/-! PROOFS. STATUS and the event port over every instruction (60_exceptions.md R701 to R703, R711): commands that are turned away, the
stickiness of the STATUS bits, and `voice_end`. -/

namespace Sys2Proof.Machine

/-! ### Bad addresses -/

/-- Settles O15: the write and the read look at the register map first. -/
theorem badAddressesAreTurnedAway : Obligations.BadAddressesAreTurnedAway := by
  intro i a s running
  refine ⟨fun unmapped command => ?_, fun v unmapped command => ?_, fun v r mapped readOnly command => ?_⟩
  · rw [exec_of_running running, command]
    exact congrArg Host.Outcome.next (readParam_of_unmapped unmapped)
  · rw [exec_of_running running, command]
    exact congrArg Host.Outcome.next (writeParam_of_unmapped unmapped v)
  · rw [exec_of_running running, command]
    exact congrArg Host.Outcome.next (writeParam_of_ro mapped readOnly v)

/-! ### STATUS -/

theorem w1c_table : ∀ u : Fin 16, ∀ i : Fin 256,
    ((regInfo 2048 (BitVec.ofNat 12 (256 * u.val + i.val))).map rowKind).all
      (fun k => !decide (k.2 = .w1c) || decide (BitVec.ofNat 12 (256 * u.val + i.val) = 0x002#12)) = true := by
  decide +kernel

/-- STATUS is the only register that a write of 1 clears (10_state.md R54). -/
theorem eq_status_of_w1c {L : Nat} {a : PAddr} {r : RegInfo} (h : regInfo L a = some r) (ha : r.access = .w1c) : a = 0x002 := by
  obtain ⟨u, i, rfl⟩ := paddr_split a
  have table := w1c_table u i
  rw [← regInfo_rowKind L, h] at table
  simpa [rowKind, ha] using table

/-- STATUS is as it was, or bits of it were raised. -/
def statusRaised (s t : State) : Prop := ∃ bits, t.voice.status = s.voice.status ||| bits

theorem statusRaised_of_eq {s t : State} (h : t.voice.status = s.voice.status) : statusRaised s t :=
  ⟨0, h.trans (BitVec.or_zero).symm⟩

theorem rejectCommand_statusRaised (s : State) (b : StatusBit) : statusRaised s (rejectCommand s b) := ⟨statusMask b, rfl⟩

theorem readParam_statusRaised (s : State) (a : PAddr) : statusRaised s (readParam s a) := by
  rcases readParam_cases s a with ⟨-, e⟩ | ⟨r, -, e⟩ <;> rw [e]
  · exact rejectCommand_statusRaised s _
  · exact statusRaised_of_eq rfl

/-- The generators and the mixer leave STATUS; the last check of a sample may raise RT_FAULT (40_voice.md R331). -/
theorem renderActive_statusRaised {s t : State} (h : renderActive s = .next t) : statusRaised s t := by
  rcases renderActive_cases s with ⟨-, e⟩ | ⟨g, s', generated, e, -⟩
  · rw [h] at e; cases e
  · rw [h] at e
    obtain rfl := Host.Outcome.next.inj e
    obtain ⟨-, -, -, -, kept, -⟩ := generateAll_state generated
    rw [statusRaised, ← kept]
    rcases finishSample_cases (mixOut s' g).1 (mixOut s' g).2 with ⟨-, -, e⟩ | ⟨-, e⟩ <;> rw [e]
    · exact statusRaised_of_eq (s := s') rfl
    · exact ⟨statusMask .rtFault, rfl⟩

/-- A write clears bits of STATUS at address 0x002 and nowhere else. -/
theorem writeParam_status (s : State) (a : PAddr) (v : RegVal) :
    statusRaised s (writeParam s a v)
    ∨ (a = 0x002 ∧ (writeParam s a v).voice.status = statusClear s.voice.status v) := by
  rcases writeParam_cases s a v with ⟨-, e⟩ | ⟨r, -, -, e⟩ | ⟨r, hr, ha, e⟩ | ⟨r, -, -, e⟩ <;> rw [e]
  · exact .inl (rejectCommand_statusRaised s _)
  · exact .inl (rejectCommand_statusRaised s _)
  · exact .inr ⟨eq_status_of_w1c hr ha, rfl⟩
  · refine .inl (statusRaised_of_eq ?_)
    rw [respond_voice, storeParam_voice]

/-- Everything a command can do to STATUS. -/
theorem runCommand_status {c : Command} {s t : State} (h : runCommand c s = .next t) :
    statusRaised s t ∨ ∃ v, c = .write 0x002 v ∧ t.voice.status = statusClear s.voice.status v := by
  cases c with
  | write a v =>
    cases h
    rcases writeParam_status s a v with raised | ⟨rfl, cleared⟩
    · exact .inl raised
    · exact .inr ⟨v, rfl, cleared⟩
  | read a => cases h; exact .inl (readParam_statusRaised s a)
  | illegal opc x => cases h; exact .inl (rejectCommand_statusRaised s _)
  | renderSample =>
    simp only [runCommand] at h
    split at h
    · exact .inl (renderActive_statusRaised h)
    · cases h; exact .inl (statusRaised_of_eq rfl)
  | tickControl => cases h; exact .inl (statusRaised_of_eq (by rw [(tickControl_ticked s).frame]))
  | buildPad => cases h; exact .inl (statusRaised_of_eq (congrArg Voice.status (padRequest_voice s)))
  | nop | setFrequency | noteOn | noteOff | clearFilters => cases h; exact .inl (statusRaised_of_eq rfl)

theorem getLsbD_of_statusRaised {s t : State} {j : Nat} (h : statusRaised s t) (set : s.voice.status.getLsbD j = true) :
    t.voice.status.getLsbD j = true := by
  obtain ⟨bits, e⟩ := h
  rw [e, BitVec.getLsbD_or, set, Bool.true_or]

/-- A set bit is lost by a clearing write only where the write has a 1. -/
theorem getLsbD_statusClear {st : BitVec 5} {v : RegVal} {j : Nat} (set : st.getLsbD j = true) :
    (statusClear st v).getLsbD j = true ∨ v.getLsbD j = true := by
  have inside : j < 5 := BitVec.lt_of_getLsbD set
  cases one : v.getLsbD j with
  | true => exact .inr rfl
  | false => exact .inl (by simp [statusClear, set, one, inside])

/-- Settles O44, by what the command does to STATUS. -/
theorem statusBitsAreSticky : Obligations.StatusBitsAreSticky := by
  refine ⟨fun i s t j h set => ?_, fun st b => ⟨rfl, ?_⟩, rfl, rfl, rfl, rfl, rfl⟩
  · rcases exec_next_cases h with ⟨-, rfl⟩ | ⟨-, h⟩
    · exact .inl set
    · rcases runCommand_status h with raised | ⟨v, command, cleared⟩
      · exact .inl (getLsbD_of_statusRaised raised set)
      · rw [cleared]
        exact (getLsbD_statusClear set).imp_right fun one => ⟨v, command, one⟩
  · rw [statusRaise, statusRaise, BitVec.or_assoc, BitVec.or_self]

/-! ### Events -/

theorem writeParam_event (s : State) (a : PAddr) (v : RegVal) : (writeParam s a v).out.event = none := by
  rcases writeParam_cases s a v with ⟨-, e⟩ | ⟨r, -, -, e⟩ | ⟨r, -, -, e⟩ | ⟨r, -, -, e⟩ <;> rw [e] <;> rfl

theorem readParam_event (s : State) (a : PAddr) : (readParam s a).out.event = none := by
  rcases readParam_cases s a with ⟨-, e⟩ | ⟨r, -, e⟩ <;> rw [e] <;> rfl

theorem renderActive_event {s t : State} (h : renderActive s = .next t) : t.out.event = none := by
  rcases renderActive_cases s with ⟨-, e⟩ | ⟨g, s', -, e, -⟩
  · rw [h] at e; cases e
  · rw [h] at e
    obtain rfl := Host.Outcome.next.inj e
    rcases finishSample_cases (mixOut s' g).1 (mixOut s' g).2 with ⟨-, -, e⟩ | ⟨-, e⟩ <;> rw [e] <;> rfl

/-- The commands other than TICK_CONTROL emit no event. -/
theorem runCommand_event {c : Command} {s t : State} (h : runCommand c s = .next t) (tick : c ≠ .tickControl) :
    t.out.event = none := by
  cases c with
  | tickControl => exact absurd rfl tick
  | write a v => cases h; exact writeParam_event s a v
  | read a => cases h; exact readParam_event s a
  | renderSample =>
    simp only [runCommand] at h
    split at h
    · exact renderActive_event h
    · cases h; rfl
  | nop | setFrequency | noteOn | noteOff | clearFilters | buildPad | illegal => cases h; rfl

/-- A tick emits an event when it ends an active voice, with the voice's identity (40_voice.md R334). -/
theorem tickControl_event {s : State} (event : (tickControl s).out.event ≠ none) :
    s.voice.active = true ∧ (tickControl s).voice.active = false ∧ (tickControl s).out.event = some s.voice.voiceId := by
  rcases tickControl_cases s with ⟨ended, e⟩ | ⟨-, e⟩ <;> rw [e] at event ⊢
  · obtain ⟨-, -, active⟩ := (ends_iff _).mp ended
    exact ⟨active, rfl, rfl⟩
  · exact absurd rfl event

theorem active_of_lifeFlags {s t : State} (h : lifeFlags t = lifeFlags s) : t.voice.active = s.voice.active :=
  congrArg (fun flags : Bool × Bool × Bool => flags.2.1) h

/-- No command but NOTE_ON makes a voice active (40_voice.md R335). -/
theorem runCommand_inactive {c : Command} {s t : State} (h : runCommand c s = .next t) (on : c ≠ .noteOn)
    (inactive : s.voice.active = false) : t.voice.active = false := by
  by_cases off : c = .noteOff
  · subst off; cases h; exact inactive
  by_cases tick : c = .tickControl
  · subst tick
    cases h
    rcases tickControl_lifeFlags s with same | ⟨active, -, -⟩
    · rw [active_of_lifeFlags same, inactive]
    · rw [inactive] at active; cases active
  · rw [active_of_lifeFlags (runCommand_lifeFlags h on off tick), inactive]

/-- Settles O41: the event by the tick's cases, the flag by the command. -/
theorem oneVoiceEndPerNote : Obligations.OneVoiceEndPerNote := by
  intro i s t h
  rcases exec_next_cases h with ⟨-, rfl⟩ | ⟨-, h⟩
  · exact ⟨fun event => absurd rfl event, fun inactive _ => inactive⟩
  · refine ⟨fun event => ?_, fun inactive notOn => ?_⟩
    · have tick : i.command = .tickControl := by_contra fun other => event (runCommand_event h other)
      rw [tick] at h
      obtain rfl := Host.Outcome.next.inj h
      exact ⟨eq_tickControl_of_command tick, tickControl_event event⟩
    · exact runCommand_inactive h (fun c => notOn (eq_noteOn_of_command c)) inactive

end Sys2Proof.Machine
end

section
/-! PROOFS. A running build comes nearer its swap at every voice step (60_exceptions.md R716; log 7). -/

namespace Sys2Proof.Machine

/-- The builds that run in `p` go on in `q` with the same snapshot and as many voice steps to wait. -/
structure BuildsGoOn (p q : Program) : Prop where
  pad : p.padBusy = true → q.padBusy = true ∧ q.padWait = p.padWait ∧ q.padSnap = p.padSnap
  mso : p.msoBusy = true → q.msoBusy = true ∧ q.msoWait = p.msoWait ∧ q.msoSnap = p.msoSnap

theorem BuildsGoOn.refl (p : Program) : BuildsGoOn p p := ⟨fun busy => ⟨busy, rfl, rfl⟩, fun busy => ⟨busy, rfl, rfl⟩⟩

theorem BuildsGoOn.of_eq {p q : Program} (h : q = p) : BuildsGoOn p q := h ▸ .refl p

theorem setReg_buildsGoOn (s : State) (k : Nat) (v : RegVal) : BuildsGoOn s.program (setReg s k v).program := by
  rw [setReg_program]
  exact ⟨fun busy => ⟨busy, rfl, rfl⟩, fun busy => ⟨busy, rfl, rfl⟩⟩

/-- A request to a busy builder is noted; it starts no build (46_pad.md R611). -/
theorem padRequest_buildsGoOn (s : State) : BuildsGoOn s.program (padRequest s).program := by
  refine ⟨fun busy => ?_, fun busy => ?_⟩
  · rw [padRequest_of_busy busy]
    exact ⟨busy, rfl, rfl⟩
  · unfold padRequest
    split <;> exact ⟨busy, rfl, rfl⟩

/-- A request to a busy builder is noted; it starts no build (45_mso.md R577). -/
theorem msoRequest_buildsGoOn (s : State) : BuildsGoOn s.program (msoRequest s).program := by
  refine ⟨fun busy => ?_, fun busy => ?_⟩
  · unfold msoRequest
    split <;> exact ⟨busy, rfl, rfl⟩
  · rw [msoRequest_of_busy busy]
    exact ⟨busy, rfl, rfl⟩

theorem BuildsGoOn.trans {p q r : Program} (h1 : BuildsGoOn p q) (h2 : BuildsGoOn q r) : BuildsGoOn p r := by
  refine ⟨fun busy => ?_, fun busy => ?_⟩
  · obtain ⟨busy', wait, snap⟩ := h1.pad busy
    obtain ⟨busy'', wait', snap'⟩ := h2.pad busy'
    exact ⟨busy'', wait'.trans wait, snap'.trans snap⟩
  · obtain ⟨busy', wait, snap⟩ := h1.mso busy
    obtain ⟨busy'', wait', snap'⟩ := h2.mso busy'
    exact ⟨busy'', wait'.trans wait, snap'.trans snap⟩

theorem storeParam_buildsGoOn (s : State) (a : PAddr) (v : Int) : BuildsGoOn s.program (storeParam s a v).program := by
  by_cases unit : unitOf a = 0xF
  · rw [storeParam_of_msob unit]
    exact (setReg_buildsGoOn s _ _).trans (msoRequest_buildsGoOn _)
  · rw [storeParam_of_ne unit]
    exact setReg_buildsGoOn s _ _

theorem writeParam_buildsGoOn (s : State) (a : PAddr) (v : RegVal) : BuildsGoOn s.program (writeParam s a v).program := by
  rcases writeParam_cases s a v with ⟨-, e⟩ | ⟨r, -, -, e⟩ | ⟨r, -, -, e⟩ | ⟨r, -, -, e⟩ <;> rw [e]
  · exact .refl _
  · exact .refl _
  · exact .refl _
  · exact storeParam_buildsGoOn s a _

/-- Only a write and BUILD_PAD reach the builder, and they at most note a request while a build runs. -/
theorem runCommand_buildsGoOn {c : Command} {s t : State} (h : runCommand c s = .next t) : BuildsGoOn s.program t.program := by
  cases c with
  | write a v => cases h; exact writeParam_buildsGoOn s a v
  | buildPad => cases h; exact padRequest_buildsGoOn s
  | read a => cases h; exact .of_eq (readParam_program s a)
  | tickControl => cases h; exact .of_eq (tickControl_program s)
  | renderSample =>
    simp only [runCommand] at h
    split at h
    · exact .of_eq (onlyRendered_program (renderActive_only h))
    · cases h; exact .refl _
  | nop | setFrequency | noteOn | noteOff | clearFilters | illegal => cases h; exact .refl _

theorem exec_buildsGoOn {i : Instr} {s t : State} (h : exec i s = .next t) : BuildsGoOn s.program t.program := by
  rcases exec_next_cases h with ⟨-, rfl⟩ | ⟨-, h⟩
  · exact .refl _
  · exact runCommand_buildsGoOn h

/-- A build that still waits is not due. -/
theorem padDue_of_wait {p : Program} (wait : 0 < p.padWait) : padDue p = false := by
  have ne : p.padWait ≠ 0 := by omega
  simp [padDue, ne]

theorem msoDue_of_wait {p : Program} (wait : 0 < p.msoWait) : msoDue p = false := by
  have ne : p.msoWait ≠ 0 := by omega
  simp [msoDue, ne]

/-- A voice step with no swap due counts the builder down, and its word leaves the builds that run. -/
theorem step_buildsGoOn {s t : State} {core : Nat} {w : Word} {rest : List (Nat × Word)} (port : s.port = (core, w) :: rest)
    (found : (focus s core).isSome = true) (noPad : padDue s.program = false) (noMso : msoDue s.program = false)
    (h : step s = .next t) : BuildsGoOn (builderCountdown s.program) t.program := by
  obtain ⟨u, focused⟩ := Option.isSome_iff_exists.mp found
  obtain ⟨i, e⟩ := execWord_eq_exec w { u with port := rest, program := builderCountdown u.program }
  rw [step_of_focus noPad noMso port focused, e] at h
  have program : u.program = s.program := by rw [(focus_frame focused).1]
  rw [← program]
  exact exec_buildsGoOn h

theorem builderCountdown_padWait {p : Program} (busy : p.padBusy = true) : (builderCountdown p).padWait = p.padWait - 1 :=
  if_pos busy

theorem builderCountdown_msoWait {p : Program} (busy : p.msoBusy = true) : (builderCountdown p).msoWait = p.msoWait - 1 :=
  if_pos busy

/-- Settles O49, for each of the two builds. -/
theorem padBuildComesNearer : Obligations.PadBuildComesNearer := by
  intro s t core w rest port found h
  refine ⟨fun busy wait noMso => ?_, fun busy wait noPad => ?_⟩
  · obtain ⟨runs, waits, snap⟩ := (step_buildsGoOn port found (padDue_of_wait wait) noMso h).pad busy
    rw [builderCountdown_padWait busy] at waits
    exact ⟨runs, by omega, snap⟩
  · obtain ⟨runs, waits, snap⟩ := (step_buildsGoOn port found noPad (msoDue_of_wait wait) h).mso busy
    rw [builderCountdown_msoWait busy] at waits
    exact ⟨runs, by omega, snap⟩

end Sys2Proof.Machine
end

section
/-! PROOFS. What reset makes of the requested rates (60_exceptions.md R705), and the invariant at the state after reset
(70_reset_and_hazards.md R751). -/

namespace Sys2Proof.Machine

/-- The fallback took place exactly when it changed a rate. -/
theorem cfgFallback_ne_self_iff (req : Cfg) :
    cfgFallback req ≠ req ↔ (cfgFallback req).fs ≠ req.fs ∨ (cfgFallback req).sub ≠ req.sub := by
  constructor
  · intro changed
    by_contra same
    obtain ⟨fs, sub⟩ := not_or.mp same
    refine changed ?_
    calc cfgFallback req = { req with fs := (cfgFallback req).fs, sub := (cfgFallback req).sub } := rfl
      _ = req := by rw [not_not.mp fs, not_not.mp sub]
  · rintro (fs | sub) same
    · exact fs (by rw [same])
    · exact sub (by rw [same])

/-- STATUS bit 4 after reset is CFG_FALLBACK. -/
theorem statusBit4_resetWith (req : Cfg) :
    (State.resetWith req).voice.status.getLsbD 4 = true ↔ cfgFallback req ≠ req := by
  rw [status_resetWith, Ne, cfgFallback_eq_self_iff]
  split
  · next legal => exact iff_of_false (by decide) (not_not.mpr legal)
  · next illegal => exact iff_of_true (by decide) illegal

/-- Settles O58: the rates by the fallback's definition, the bit by whether it changed one, the halt flag by the check of R8. -/
theorem ratesFallBack : Obligations.RatesFallBack := by
  intro req s
  refine ⟨rfl, rfl, (statusBit4_resetWith req).trans (cfgFallback_ne_self_iff req), fun legal => ?_⟩
  have flag : s.voice.halted = !cfgLegal s.cfg := rfl
  rw [flag, legal]
  rfl

/-- Settles O52: the state after reset is the reset with the default configuration. -/
theorem resetMeetsTheInvariant : Obligations.ResetMeetsTheInvariant := everyResetMeetsTheInvariant Cfg.default

end Sys2Proof.Machine
end
